-- ==== Sys2Proof/Word.lean ====
section
/-! DEFINITION. The words of the station links: a byte (one data character, R169) and a
two-byte field, low byte first (R178).  Everything that is computed over them stands in
files directly under Machine. -/

namespace Sys2Proof

/-- One data character of a frame, and one byte of the yard description (R1, R169). -/
abbrev Byte := BitVec 8

/-- A two-byte field of a message body (R178). -/
abbrev Half := BitVec 16

/-- A character on the line: bit 8 is the mark bit, bits 7..0 the data bits (R169). -/
abbrev Char9 := BitVec 9

end Sys2Proof
end

