-- ==== Sys2Proof/Config.lean ====
section
/-! DEFINITION. What the part fixes (Table 1, Table 12) and the one value the manual leaves
open (assumption log, entry 8). -/

namespace Sys2Proof.Config

/-- Capacities of Table 1. -/
def numSections : Nat := 96
def numPoints : Nat := 48
def numSignals : Nat := 64
def numRoutes : Nat := 240
def numRoads : Nat := 24
def numAreas : Nat := 8
def numPosts : Nat := 32
def numSlots : Nat := 24
def waitingCap : Nat := 16
def programmeCap : Nat := 64
def fleetCap : Nat := 160
def stackCap : Nat := 8
def answerCap : Nat := 4
def reportCap : Nat := 16
def bodyMax : Nat := 120

/-- Occupancy inputs of the field port (R4, section 2.2). -/
def numInputs : Nat := 128
/-- Point channels of the field port (R5). -/
def numChannels : Nat := 64

/-- Table 12: duration of a test step, 0.2 s. -/
def tTest : Nat := 2
/-- Table 12: overtravel above S allowed to the stroke count. -/
def overtravel : Nat := 30
/-- Table 12: learning settle time, 0.3 s. -/
def tSettle : Nat := 3
/-- Table 12: load idle limit, 60 s. -/
def loadIdle : Nat := 600
/-- R148: the minute timer, 60 s. -/
def minute : Nat := 600
/-- Section 3.8: the learning count may run up to 230. -/
def learnMax : Nat := 230

/-- FREE VALUE (log entry 8).  R178 encodes a flag as 0 clear, 1 set, and R158 lists no
refusal for an auto-flag byte of 2 to 255: how the part reads such a byte is not stated. -/
opaque freeFlag : Byte → Bool

end Sys2Proof.Config
end

