-- ==== Sys2Proof/Syntax.lean ====
section
/-! DEFINITION. The commands the part takes: one constructor of `Instr` for each row of
spec/opcode_table.json.  A request row stands for one whole, checked frame of that kind with
its body fields (R170, R179); an expiry row for the expiry event of one timer; a field row for
one event of the field port. -/

namespace Sys2Proof

/-- The three station links (Table 1). -/
inductive LinkId where
  | a | b | c
  deriving DecidableEq, Repr

/-- An occupancy level of the field port (R25). -/
inductive Level where
  | clear | occupied
  deriving DecidableEq, Repr

/-- The outcome a field module reports for a point under test (R69). -/
inductive TestOutcome where
  | pass | fail
  deriving DecidableEq, Repr

/-- R69, R79: the step that a field module sends an outcome report for: the one in progress, or one
that has ended or been abandoned (log entry 27). -/
inductive SentFor where
  | current | past
  deriving DecidableEq, Repr

/-- R69, R79: an outcome report: what the field module found, and the step it was sent for. -/
structure TestReport where
  outcome : TestOutcome
  step : SentFor
  deriving DecidableEq, Repr

/-- One entry of LOAD FLEET: tram, length in centimetres (R127, Table 27). -/
structure FleetItem where
  tram : Half
  lengthCm : Half
  deriving DecidableEq, Repr

/-- One programme entry of ten bytes as LOAD and APPEND PROGRAMME carry it (section 11.2). -/
structure ProgItem where
  movement : Half
  kind : Byte
  tram : Half
  road : Byte
  definition : Byte
  notBefore : Half
  auto : Byte
  deriving DecidableEq, Repr

/-- The rows of spec/opcode_table.json, in the table's order. -/
inductive Instr where
  | powerOnReset (addr : BitVec 7) (rateA rateB rateC : BitVec 2)
  | lineBreak (link : LinkId)
  | lineReturnToMark (link : LinkId)
  | characterReceived (link : LinkId) (char : Char9)
  | framingError (link : LinkId)
  | gapTimerExpiry (link : LinkId)
  | unknownKindFrame (link : LinkId) (broadcast : Bool) (kind : Byte)
  | frameSent (link : LinkId)
  | status (link : LinkId)
  | readSection (link : LinkId) (sect : Byte)
  | readPoint (link : LinkId) (point : Byte)
  | readSignal (link : LinkId) (signal : Byte)
  | readInstance (link : LinkId) (slot : Byte)
  | readRoad (link : LinkId) (road : Byte)
  | readEntry (link : LinkId) (place : Byte)
  | readWaiting (link : LinkId) (place : Byte)
  | readArea (link : LinkId) (area : Byte)
  | openLoad (link : LinkId)
  | loadBlock (link : LinkId) (table : Byte) (offset : Half) (data : List Byte)
  | closeLoad (link : LinkId)
  | loadIdleTimerExpiry
  | setRoute (link : LinkId) (definition flags key : Byte) (tram : Half) (reserved : Byte)
  | cancelRoute (link : LinkId) (signal : Byte)
  | handRelease (link : LinkId) (signal : Byte)
  | retryRoute (link : LinkId) (signal : Byte)
  | withdraw (link : LinkId) (definition : Byte)
  | walkGrant
  | lifeTimerExpiry (definition : Nat)
  | inputOccupied (input : Nat)
  | inputClear (input : Nat)
  | healthFault (input : Nat)
  | healthReturn (input : Nat) (level : Level)
  | clearTimerExpiry (sect : Nat)
  | approachTimerExpiry (slot : Nat)
  | handReleaseTimerExpiry (slot : Nat)
  | phaseReport (channel : Nat) (levelA levelB : Bool)
  | contactReport (channel : Nat) (normalMade reverseMade : Bool)
  | driveTimeout (point : Nat)
  | restTimerExpiry (point : Nat)
  | drivePoint (link : LinkId) (point position : Byte)
  | blockPoint (link : LinkId) (point : Byte)
  | unblockPoint (link : LinkId) (point : Byte)
  | learnPoint (link : LinkId) (point : Byte)
  | settleTimerExpiry (point : Nat)
  | learningTimerExpiry (point : Nat)
  | testOutcomeReport (channel : Nat) (report : TestReport)
  | intervalTimerExpiry
  | stepTimerExpiry
  | setGranularity (link : LinkId) (granularity : Byte)
  | enterQuiet (link : LinkId)
  | wake (link : LinkId)
  | possessArea (link : LinkId) (area key : Byte)
  | endPossession (link : LinkId) (area : Byte)
  | declareRoad (link : LinkId) (road count : Byte) (trams : List Half)
  | confirmRoad (link : LinkId) (road : Byte)
  | blockRoad (link : LinkId) (road : Byte)
  | unblockRoad (link : LinkId) (road : Byte)
  | loadFleet (link : LinkId) (manner count : Byte) (items : List FleetItem)
  | holdTimerExpiry (road : Nat)
  | arriveTimerExpiry (road : Nat)
  | call (link : LinkId) (post : Byte) (tram : Half)
  | holdProgramme (link : LinkId) (broadcast : Bool)
  | resumeProgramme (link : LinkId)
  | skipEntry (link : LinkId) (movement : Half)
  | loadProgramme (link : LinkId) (count : Byte) (items : List ProgItem)
  | appendProgramme (link : LinkId) (count : Byte) (items : List ProgItem)
  | time (link : LinkId) (broadcast : Bool) (minute : Half)
  | minuteTimerExpiry
  deriving DecidableEq, Repr

end Sys2Proof
end

