-- ==== Sys2Proof/Machine/State.lean ====
section
/-! DEFINITION. The state of the YX-416, as plain data, and the state after power-on reset.
Each structure names the rule of spec/ that gives it.  A timer is `none` while stopped and
`some r` while running with r units of 0.1 s left (R178). -/

namespace Sys2Proof.Machine

/-- A timer: stopped, or running with its remaining time in 0.1 s units. -/
abbrev Timer := Option Nat

/-- Table 14, coded from 0 in this order (R178). -/
inductive Mode where
  | unloaded | loading | proving | running | quiet | waking
  deriving DecidableEq, Repr

/-- Table 16. -/
inductive Occupancy where
  | clear | occupied | disturbed
  deriving DecidableEq, Repr

/-- A point position. -/
inductive Position where
  | normal | reverse
  deriving DecidableEq, Repr

/-- Table 18, R47. -/
inductive Detection where
  | normal | reverse | moving | lost | learning
  deriving DecidableEq, Repr

/-- Section 3.4. -/
inductive DriveState where
  | idle | queued | deadTime | driving | failed | learning
  deriving DecidableEq, Repr

/-- Section 3.8. -/
inductive LearnPhase where
  | waiting | outward | settle | back
  deriving DecidableEq, Repr

/-- R39. -/
inductive Aspect where
  | stop | proceed
  deriving DecidableEq, Repr

/-- Table 21. -/
inductive InstState where
  | setting | opened | entered | cancelling | stalled | handReleasing
  deriving DecidableEq, Repr

/-- R102: the stall cause with the point or section concerned. -/
inductive StallCause where
  | driveFailed (point : Nat)
  | driveWithdrawn (point : Nat)
  | pointLost (point : Nat)
  | unbiddenMove (point : Nat)
  | testFail (point : Nat)
  | entryAtStop (sect : Nat)
  | intrusion (sect : Nat)
  deriving DecidableEq, Repr

/-- Table 22. -/
inductive RoadStatus where
  | unknown | idle | arriving | departing | disagree | blocked
  deriving DecidableEq, Repr

/-- Table 22: arrival phase. -/
inductive ArrivalPhase where
  | reserved | settling
  deriving DecidableEq, Repr

/-- R125. -/
inductive RecordState where
  | stabled | arriving | departing
  deriving DecidableEq, Repr

/-- Table 22: kind of the agreement timer. -/
inductive AgreeKind where
  | hold | arrive
  deriving DecidableEq, Repr

/-- Table 24. -/
inductive EntryState where
  | planned | called | dispatched | running | done | failed | skipped
  deriving DecidableEq, Repr

/-- Table 24. -/
inductive EntryKind where
  | arrive | depart
  deriving DecidableEq, Repr

/-- R161. -/
inductive AreaStatus where
  | free | pending | possessed
  deriving DecidableEq, Repr

/-- Table 19: step kind. -/
inductive StepKind where
  | none | cycle | quiet | proving
  deriving DecidableEq, Repr

/-- R10. -/
inductive Role where
  | desk | calls | planner | unused
  deriving DecidableEq, Repr

/-- R10: the report classes, in the order of their subscription bits and of the kinds
0xC1 to 0xC8 (Table 29). -/
inductive ReportClass where
  | route | point | sect | road | programme | area | alarm | mode
  deriving DecidableEq, Repr

/-- Table 26. -/
inductive RxState where
  | hunt | ignore | assemble | inBreak
  deriving DecidableEq, Repr

/-- R178: element kind of a CONFLICT. -/
inductive Element where
  | sect | signal | point
  deriving DecidableEq, Repr

/-- R178: conflict cause. -/
inductive ConflictCause where
  | locked | occupied | flank | learning
  deriving DecidableEq, Repr

/-- The failures of a walk with their data (R89, R90). -/
inductive Failure where
  | wrongMode (mode : Mode)
  | notPermitted
  | notFound
  | areaNotPermitted (sect : Nat)
  | possession (sect area : Nat)
  | conflict (element : Element) (index : Nat) (cause : ConflictCause)
  | pointBlocked (point : Nat)
  | roadNotReady (road : Nat)
  | noFit (road : Nat)
  | duplicate (road : Nat)
  | blockedIn
  | listFull
  deriving DecidableEq, Repr

/-- R147: what finished an entry (R160, section 11.4). -/
inductive Outcome where
  | walk (failure : Failure)
  | cancelled
  | handReleased
  | arrivalDisagree
  deriving DecidableEq, Repr

/-- R122: manner of a release. -/
inductive Manner where
  | sequential | cancelled | handReleased
  deriving DecidableEq, Repr

/-- Table 20: who made a request, and so whose permission counts. -/
inductive Requester where
  | link (link : LinkId)
  | programme
  deriving DecidableEq, Repr

/-- Table 20: how the request was made. -/
inductive Origin where
  | setRoute | call | programme
  deriving DecidableEq, Repr

/-- R83: the five requesters of the walker, as the rotation pointer names them. -/
inductive Turn where
  | waiting
  | link (link : LinkId)
  | programme
  deriving DecidableEq, Repr

/-- Table 20. -/
structure WalkRequest where
  definition : Nat
  requester : Requester
  origin : Origin
  store : Bool
  stopShort : Bool
  key : Nat
  tram : Nat
  movement : Option Nat
  deriving DecidableEq, Repr

/-- A frame's kind and body, as an answer or a report waits to be sent (R173). -/
structure Frame where
  kind : Byte
  body : List Byte
  deriving DecidableEq, Repr

/-- Table 26: the transmitter is idle, or sends one frame: the oldest answer (which stays in
the answer buffer until it is sent), or a report. -/
inductive Transmitter where
  | idle
  | answer (frame : Frame)
  | report (frame : Frame)
  deriving DecidableEq, Repr

/-- R177: the flags of a link, but for REPORTS_LOST, which stands beside the report queue. -/
structure LinkFlags where
  framing : Bool := false
  gap : Bool := false
  length : Bool := false
  check : Bool := false
  abandoned : Bool := false
  overflow : Bool := false
  deriving DecidableEq, Repr

/-- Table 26, but for the report queue. -/
structure LinkUnit where
  rx : RxState := .hunt
  buf : List Byte := []
  broadcast : Bool := false
  gapRunning : Bool := false
  active : Option WalkRequest := none
  staged : Option WalkRequest := none
  answers : List Frame := []
  reserved : Nat := 0
  tx : Transmitter := .idle
  flags : LinkFlags := {}
  role : Option Role := none
  areas : Byte := 0
  subscription : Byte := 0
  holdOff : Bool := false
  rate : BitVec 2 := 0
  deriving DecidableEq, Repr

/-- Table 26: the report queue and the flag REPORTS_LOST (R175). -/
structure ReportUnit where
  queue : List Frame := []
  lost : Bool := false
  deriving DecidableEq, Repr

/-- One thing for each of the links A, B and C. -/
structure PerLink (α : Type) where
  a : α
  b : α
  c : α
  deriving DecidableEq, Repr

/-- Table 16. -/
structure SectionState where
  occ : Occupancy := .occupied
  level : Level := .occupied
  healthy : Bool := true
  timer : Timer := none
  owner : Option Nat := none
  wasOccupied : Bool := false
  releaseFault : Bool := false
  deriving DecidableEq, Repr

/-- R39. -/
structure SignalState where
  aspect : Aspect := .stop
  owner : Option Nat := none
  deriving DecidableEq, Repr

/-- Table 18, with the test scheduler's per-point items (Table 19). -/
structure PointState where
  count : Nat := 0
  strokeRef : Nat := 120
  learned : Bool := false
  phaseA : Bool := false
  phaseB : Bool := false
  normalMade : Bool := false
  reverseMade : Bool := false
  latch : Bool := false
  computed : Detection := .lost
  presented : Detection := .lost
  drive : DriveState := .idle
  target : Option Position := none
  output : Option Position := none
  strokeTimer : Timer := none
  restTimer : Timer := none
  restDir : Position := .normal
  refCount : Nat := 0
  excursion : Bool := false
  mismatch : Bool := false
  routeOwner : Option Nat := none
  routePos : Option Position := none
  flankCount : Nat := 0
  flankPos : Option Position := none
  blocked : Bool := false
  phase : Option LearnPhase := none
  learnCount : Nat := 0
  measured : Option Nat := none
  learnTimer : Timer := none
  settleTimer : Timer := none
  underTest : Bool := false
  outcome : Option TestOutcome := none
  tested : Bool := false
  deriving DecidableEq, Repr

/-- Table 19, the items that are not per point. -/
structure TestState where
  g : Nat := 1
  pendingG : Option Nat := none
  pointer : Nat := 0
  interval : Timer := none
  step : Timer := none
  kind : StepKind := .none
  deriving DecidableEq, Repr

/-- R92, R102: the record of a live route instance. -/
structure RouteInst where
  definition : Nat
  link : LinkId
  tram : Option Nat
  key : Option Nat
  shortenedAt : Option Nat
  state : InstState
  approachLocked : Bool
  unreleased : List Nat
  releaseIndex : Nat
  timer : Timer
  movement : Option Nat
  stallCause : Option StallCause
  deriving DecidableEq, Repr

/-- R97. STORE is always set. -/
structure WaitEntry where
  definition : Nat
  link : LinkId
  origin : Origin
  stopShort : Bool
  key : Nat
  tram : Nat
  tried : Bool
  life : Nat
  deriving DecidableEq, Repr

/-- R125. -/
structure StackRecord where
  tram : Nat
  length : Nat
  state : RecordState
  deriving DecidableEq, Repr

/-- R124: a running agreement timer. -/
structure AgreeTimer where
  kind : AgreeKind
  remaining : Nat
  deriving DecidableEq, Repr

/-- Table 22. -/
structure RoadState where
  status : RoadStatus := .unknown
  phase : Option ArrivalPhase := none
  stack : List StackRecord := []
  timer : Option AgreeTimer := none
  declared : Bool := false
  deriving DecidableEq, Repr

/-- R126. -/
structure FleetEntry where
  tram : Nat
  lengthCm : Nat
  deriving DecidableEq, Repr

/-- Table 24. -/
structure ProgEntry where
  movement : Nat
  kind : EntryKind
  tram : Nat
  road : Nat
  definition : Nat
  notBefore : Option Nat
  auto : Bool
  state : EntryState
  tried : Bool
  outcome : Option Outcome
  deriving DecidableEq, Repr

/-- R147. -/
structure Programme where
  entries : List ProgEntry := []
  hold : Bool := false
  clock : Option Nat := none
  minuteTimer : Timer := none
  deriving DecidableEq, Repr

/-- R161. -/
structure AreaState where
  status : AreaStatus := .free
  key : Nat := 0
  deriving DecidableEq, Repr

/-- R17, R18, R169: the mode controller and the unit address. -/
structure ModeControl where
  mode : Mode := .unloaded
  loadingLink : Option LinkId := none
  idleTimer : Timer := none
  addr : BitVec 7 := 1
  deriving DecidableEq, Repr

/-- A command the part hands to the field port (R39, R41, R50, R68, R70). -/
inductive FieldCmd where
  | drive (channel : Nat) (output : Option Position)
  | aspect (channel : Nat) (aspect : Aspect)
  | testStart (channel : Nat)
  | testEnd (channel : Nat)
  deriving DecidableEq, Repr

/-- R1, R2: the yard description memory, and whether it is in force. -/
structure Desc where
  mem : List Host.Cell := []
  inForce : Bool := false
  deriving DecidableEq, Repr

/-- R26: the present level and health of one field input. -/
structure InputPin where
  level : Level := .occupied
  healthy : Bool := true
  deriving DecidableEq, Repr

/-- R44: the present phase levels and contact states of one point channel. -/
structure ChannelPin where
  levelA : Bool := false
  levelB : Bool := false
  normalMade : Bool := false
  reverseMade : Bool := false
  deriving DecidableEq, Repr

/-- What the field modules present to the part (section 2.2, R44). -/
structure Pins where
  inputs : Vector InputPin 128
  channels : Vector ChannelPin 64
  deriving DecidableEq, Repr

/-- The blocks of Table 2, less the description memory. -/
structure Blocks where
  ctl : ModeControl
  secs : Vector SectionState 96
  settleWatch : Bool
  sigs : Vector SignalState 64
  pts : Vector PointState 48
  queue : List Nat
  slots : Nat
  tst : TestState
  rot : Turn
  insts : Vector (Option RouteInst) 24
  wait : List WaitEntry
  roads : Vector RoadState 24
  fleet : List FleetEntry
  prog : Programme
  areas : Vector AreaState 8
  links : PerLink LinkUnit
  reps : PerLink ReportUnit
  out : List FieldCmd
  deriving DecidableEq, Repr

/-- The whole machine: description memory, field port pins, blocks, and the commands that
wait, first in, first out. -/
structure State where
  desc : Desc
  pins : Pins
  blk : Blocks
  pending : List Instr
  deriving DecidableEq, Repr

/-- No command of this part stops it: the manual gives every command an effect in every
state, so no reason for a fault exists (safe). -/
inductive Fault where
  deriving DecidableEq, Repr

/-- Why a command would have no meaning. -/
inductive Refusal where
  /-- Raised only by an arm of `exec` whose command has no meaning yet; no arm is left so
  (safe). -/
  | notModelled (mnemonic : String)
  deriving DecidableEq, Repr

/-- Every block at its power-on value (R17, R25, R39, R43, R66, R82, R97, R102, R124, R126,
R147, R161, R168). -/
def Blocks.reset : Blocks where
  ctl := {}
  secs := Vector.replicate 96 {}
  settleWatch := false
  sigs := Vector.replicate 64 {}
  pts := Vector.replicate 48 {}
  queue := []
  slots := 0
  tst := {}
  rot := .programme
  insts := Vector.replicate 24 none
  wait := []
  roads := Vector.replicate 24 {}
  fleet := []
  prog := {}
  areas := Vector.replicate 8 {}
  links := ⟨{}, {}, {}⟩
  reps := ⟨{}, {}, {}⟩
  out := []

/-- DESIGN CHOICE (log entry 5): what the field port presents before any event, unsafe. -/
def Pins.reset : Pins where
  inputs := Vector.replicate 128 {}
  channels := Vector.replicate 64 {}

/-- The machine right after power-on reset.  DESIGN CHOICE (log entry 4): address pins 1 and
rate pins 0, unsafe. -/
def State.reset : State where
  desc := {}
  pins := Pins.reset
  blk := Blocks.reset
  pending := []

end Sys2Proof.Machine
end

