-- ==== Sys2Proof/Machine/Operands.lean ====
section
/-! DEFINITION. Field encoding (R178), the codes of every value list, and the request
catalogue (R179, Table 27).  All bodies the part sends are built from these. -/

namespace Sys2Proof.Machine

/-! ### Fields -/

/-- A one-byte field. -/
def b1 (n : Nat) : List Byte := [BitVec.ofNat 8 n]

/-- A two-byte field, low byte first (R178). -/
def b2 (n : Nat) : List Byte := [BitVec.ofNat 8 (n % 256), BitVec.ofNat 8 (n / 256)]

/-- A one-byte field that may be none, absent or unset: 255. -/
def o1 (v : Option Nat) : List Byte := b1 (v.getD 255)

/-- A two-byte field that may be none, absent or unset: 65535.  A timer has the same form,
65535 while stopped. -/
def o2 (v : Option Nat) : List Byte := b2 (v.getD 65535)

/-- A flag or mark: 0 clear, 1 set. -/
def flag (v : Bool) : List Byte := b1 (if v then 1 else 0)

/-- A set of up to eight members, member i present when bit i is one. -/
def bitSet (members : List Nat) : Nat :=
  members.foldl (fun acc i => acc ||| (1 <<< i)) 0

/-- Member i of a one-byte set. -/
def hasBit (s : Byte) (i : Nat) : Bool := s.getLsbD i

/-- A list in a body: its count, then the entries. -/
def listField (entries : List (List Byte)) : List Byte := b1 entries.length ++ entries.flatten

/-- The value of a two-byte field from its bytes, low byte first. -/
def halfOf (lo hi : Byte) : Half := hi ++ lo

/-! ### Codes (R178 and the tables it names) -/

def Mode.code : Mode → Nat
  | .unloaded => 0 | .loading => 1 | .proving => 2 | .running => 3 | .quiet => 4 | .waking => 5

def Occupancy.code : Occupancy → Nat
  | .clear => 0 | .occupied => 1 | .disturbed => 2

def Position.code : Position → Nat
  | .normal => 0 | .reverse => 1

def Detection.code : Detection → Nat
  | .normal => 0 | .reverse => 1 | .moving => 2 | .lost => 3 | .learning => 4

def DriveState.code : DriveState → Nat
  | .idle => 0 | .queued => 1 | .deadTime => 2 | .driving => 3 | .failed => 4 | .learning => 5

def LearnPhase.code : LearnPhase → Nat
  | .waiting => 0 | .outward => 1 | .settle => 2 | .back => 3

def Aspect.code : Aspect → Nat
  | .stop => 0 | .proceed => 1

def InstState.code : InstState → Nat
  | .setting => 0 | .opened => 1 | .entered => 2 | .cancelling => 3 | .stalled => 4
  | .handReleasing => 5

def RoadStatus.code : RoadStatus → Nat
  | .unknown => 0 | .idle => 1 | .arriving => 2 | .departing => 3 | .disagree => 4
  | .blocked => 5

def ArrivalPhase.code : ArrivalPhase → Nat
  | .reserved => 0 | .settling => 1

def RecordState.code : RecordState → Nat
  | .stabled => 0 | .arriving => 1 | .departing => 2

def AgreeKind.code : AgreeKind → Nat
  | .hold => 0 | .arrive => 1

def EntryState.code : EntryState → Nat
  | .planned => 0 | .called => 1 | .dispatched => 2 | .running => 3 | .done => 4
  | .failed => 5 | .skipped => 6

def EntryKind.code : EntryKind → Nat
  | .arrive => 0 | .depart => 1

def AreaStatus.code : AreaStatus → Nat
  | .free => 0 | .pending => 1 | .possessed => 2

def StepKind.code : StepKind → Nat
  | .none => 0 | .cycle => 1 | .quiet => 2 | .proving => 3

def linkCode : LinkId → Nat
  | .a => 0 | .b => 1 | .c => 2

def Element.code : Element → Nat
  | .sect => 0 | .signal => 1 | .point => 2

def ConflictCause.code : ConflictCause → Nat
  | .locked => 0 | .occupied => 1 | .flank => 2 | .learning => 3

def Manner.code : Manner → Nat
  | .sequential => 0 | .cancelled => 1 | .handReleased => 2

def Origin.code : Origin → Nat
  | .setRoute => 0 | .call => 1 | .programme => 2

def levelCode : Level → Nat
  | .clear => 0 | .occupied => 1

/-- Table 16 lists healthy, faulty. -/
def healthCode (healthy : Bool) : Nat := if healthy then 0 else 1

/-- Table 18 lists made, open.  DEDUCED (log entry 17). -/
def contactCode (made : Bool) : Nat := if made then 0 else 1

/-- R102 lists the stall causes in this order. -/
def StallCause.code : StallCause → Nat
  | .driveFailed _ => 0 | .driveWithdrawn _ => 1 | .pointLost _ => 2 | .unbiddenMove _ => 3
  | .testFail _ => 4 | .entryAtStop _ => 5 | .intrusion _ => 6

/-- The point or section of a stall cause. -/
def StallCause.element : StallCause → Nat
  | .driveFailed p => p | .driveWithdrawn p => p | .pointLost p => p | .unbiddenMove p => p
  | .testFail p => p | .entryAtStop s => s | .intrusion s => s

/-- R10, Table 29: subscription bit of a class; its kind is 0xC1 plus the bit. -/
def ReportClass.bit : ReportClass → Nat
  | .route => 0 | .point => 1 | .sect => 2 | .road => 3 | .programme => 4 | .area => 5
  | .alarm => 6 | .mode => 7

def ReportClass.kind (c : ReportClass) : Byte := BitVec.ofNat 8 (0xC1 + c.bit)

/-- A position from its code (R178). -/
def positionOf (n : Nat) : Position := if n = 1 then .reverse else .normal

/-- The position a detection names, if it names one. -/
def Detection.isAt (v : Detection) (x : Position) : Bool :=
  match v, x with
  | .normal, .normal => true
  | .reverse, .reverse => true
  | _, _ => false

/-- The role of a link record (R10, R3): 255 reads as UNUSED. -/
def roleOf (n : Nat) : Role :=
  match n with
  | 0 => .desk
  | 1 => .calls
  | 2 => .planner
  | _ => .unused

/-- How the part reads a flag byte of a request: 0 clear, 1 set (R178); what it makes of any
other byte is the free value of log entry 8. -/
def flagOf (b : Byte) : Bool :=
  if b = 0 then false else if b = 1 then true else Config.freeFlag b

/-! ### Result codes (Table 28) -/

def rDone : Nat := 0x00
def rStored : Nat := 0x01
def rShortened : Nat := 0x02
def rUnknownKind : Nat := 0x10
def rBadLength : Nat := 0x11
def rBadValue : Nat := 0x12
def rNotPermitted : Nat := 0x13
def rWrongMode : Nat := 0x14
def rBusy : Nat := 0x15
def rConflict : Nat := 0x20
def rAreaNotPermitted : Nat := 0x21
def rPossession : Nat := 0x22
def rPointBlocked : Nat := 0x23
def rRoadNotReady : Nat := 0x24
def rNoFit : Nat := 0x25
def rBlockedIn : Nat := 0x26
def rDuplicate : Nat := 0x27
def rListFull : Nat := 0x28
def rNoRoad : Nat := 0x29
def rNotFound : Nat := 0x30
def rAlreadyEntered : Nat := 0x31
def rLocked : Nat := 0x32
def rOccupied : Nat := 0x33
def rLearning : Nat := 0x34
def rInUse : Nat := 0x35
def rNotIdle : Nat := 0x36
def rLoadFault : Nat := 0x37

/-- A walk failure as a result code and its data (R89, R180). -/
def Failure.body : Failure → List Byte
  | .wrongMode m => b1 rWrongMode ++ b1 m.code
  | .notPermitted => b1 rNotPermitted
  | .notFound => b1 rNotFound
  | .areaNotPermitted s => b1 rAreaNotPermitted ++ b1 s
  | .possession s a => b1 rPossession ++ b1 s ++ b1 a
  | .conflict e i c => b1 rConflict ++ b1 e.code ++ b1 i ++ b1 c.code
  | .pointBlocked p => b1 rPointBlocked ++ b1 p
  | .roadNotReady r => b1 rRoadNotReady ++ b1 r
  | .noFit r => b1 rNoFit ++ b1 r
  | .duplicate r => b1 rDuplicate ++ b1 r
  | .blockedIn => b1 rBlockedIn
  | .listFull => b1 rListFull

/-- An entry's outcome as a PROGRAMME report gives it (section 11.4), and, DEDUCED (log entry 17), the
READ ENTRY answer. -/
def outcomeBody : Option Outcome → List Byte
  | none => b1 255
  | some (.walk f) => f.body
  | some .cancelled => b1 0xF0
  | some .handReleased => b1 0xF1
  | some .arrivalDisagree => b1 0xF2

/-! ### Request catalogue (Table 27) -/

def kStatus : Byte := 0x01
def kReadSection : Byte := 0x02
def kReadPoint : Byte := 0x03
def kReadSignal : Byte := 0x04
def kReadInstance : Byte := 0x05
def kReadRoad : Byte := 0x06
def kReadEntry : Byte := 0x07
def kReadWaiting : Byte := 0x08
def kReadArea : Byte := 0x09
def kOpenLoad : Byte := 0x10
def kLoadBlock : Byte := 0x11
def kCloseLoad : Byte := 0x12
def kSetRoute : Byte := 0x20
def kCancelRoute : Byte := 0x21
def kHandRelease : Byte := 0x22
def kRetryRoute : Byte := 0x23
def kWithdraw : Byte := 0x24
def kDrivePoint : Byte := 0x30
def kBlockPoint : Byte := 0x31
def kUnblockPoint : Byte := 0x32
def kLearnPoint : Byte := 0x33
def kPossessArea : Byte := 0x40
def kEndPossession : Byte := 0x41
def kDeclareRoad : Byte := 0x50
def kBlockRoad : Byte := 0x51
def kUnblockRoad : Byte := 0x52
def kConfirmRoad : Byte := 0x53
def kLoadFleet : Byte := 0x54
def kLoadProgramme : Byte := 0x60
def kAppendProgramme : Byte := 0x61
def kSkipEntry : Byte := 0x62
def kHoldProgramme : Byte := 0x63
def kResumeProgramme : Byte := 0x64
def kCall : Byte := 0x70
def kSetGranularity : Byte := 0x78
def kEnterQuiet : Byte := 0x79
def kWake : Byte := 0x7A
def kTime : Byte := 0x7F

/-- The lengths Table 27 gives a kind. -/
inductive LenRule where
  | exactly (n : Nat)
  | range (lo hi : Nat)
  | steps (base size max : Nat)
  deriving DecidableEq, Repr

def LenRule.ok : LenRule → Nat → Bool
  | .exactly n, len => len == n
  | .range lo hi, len => decide (lo ≤ len) && decide (len ≤ hi)
  | .steps base size max, len =>
    (List.range (max + 1)).any fun n => len == base + size * n

/-- A row of Table 27: the roles it permits (none of them listed: any role) and its LEN. -/
structure CatRow where
  kind : Byte
  roles : List Role
  len : LenRule
  deriving DecidableEq, Repr

def CatRow.permits (r : CatRow) (role : Option Role) : Bool :=
  r.roles.isEmpty || match role with
    | some x => r.roles.contains x
    | none => false

def catalogue : List CatRow :=
  [⟨kStatus, [], .exactly 0⟩, ⟨kReadSection, [], .exactly 1⟩, ⟨kReadPoint, [], .exactly 1⟩,
   ⟨kReadSignal, [], .exactly 1⟩, ⟨kReadInstance, [], .exactly 1⟩, ⟨kReadRoad, [], .exactly 1⟩,
   ⟨kReadEntry, [], .exactly 1⟩, ⟨kReadWaiting, [], .exactly 1⟩, ⟨kReadArea, [], .exactly 1⟩,
   ⟨kOpenLoad, [], .exactly 0⟩, ⟨kLoadBlock, [], .range 3 119⟩, ⟨kCloseLoad, [], .exactly 0⟩,
   ⟨kSetRoute, [.desk], .exactly 6⟩, ⟨kCancelRoute, [.desk], .exactly 1⟩,
   ⟨kHandRelease, [.desk], .exactly 1⟩, ⟨kRetryRoute, [.desk], .exactly 1⟩,
   ⟨kWithdraw, [], .exactly 1⟩,
   ⟨kDrivePoint, [.desk], .exactly 2⟩, ⟨kBlockPoint, [.desk], .exactly 1⟩,
   ⟨kUnblockPoint, [.desk], .exactly 1⟩, ⟨kLearnPoint, [.desk], .exactly 1⟩,
   ⟨kPossessArea, [.desk], .exactly 2⟩, ⟨kEndPossession, [.desk], .exactly 1⟩,
   ⟨kDeclareRoad, [.planner], .steps 2 2 8⟩, ⟨kBlockRoad, [.desk], .exactly 1⟩,
   ⟨kUnblockRoad, [.desk], .exactly 1⟩, ⟨kConfirmRoad, [.desk], .exactly 1⟩,
   ⟨kLoadFleet, [.planner], .steps 2 4 29⟩, ⟨kLoadProgramme, [.planner], .steps 1 10 11⟩,
   ⟨kAppendProgramme, [.planner], .steps 1 10 11⟩, ⟨kSkipEntry, [.desk, .planner], .exactly 2⟩,
   ⟨kHoldProgramme, [.desk], .exactly 0⟩, ⟨kResumeProgramme, [.desk], .exactly 0⟩,
   ⟨kCall, [.calls], .exactly 3⟩, ⟨kSetGranularity, [.desk], .exactly 1⟩,
   ⟨kEnterQuiet, [.desk], .exactly 0⟩, ⟨kWake, [.desk], .exactly 0⟩, ⟨kTime, [.desk], .exactly 2⟩]

/-- The catalogue's row of a kind, if it has one. -/
def catRow (kind : Byte) : Option CatRow := catalogue.find? fun r => r.kind == kind

/-! ### Bodies from bytes (Table 27) -/

def halvesOf : List Byte → List Half
  | lo :: hi :: rest => halfOf lo hi :: halvesOf rest
  | _ => []

def fleetOf : List Byte → List FleetItem
  | t0 :: t1 :: l0 :: l1 :: rest => ⟨halfOf t0 t1, halfOf l0 l1⟩ :: fleetOf rest
  | _ => []

def progOf : List Byte → List ProgItem
  | m0 :: m1 :: k :: t0 :: t1 :: r :: d :: n0 :: n1 :: a :: rest =>
    ⟨halfOf m0 m1, k, halfOf t0 t1, r, d, halfOf n0 n1, a⟩ :: progOf rest
  | _ => []

end Sys2Proof.Machine
end

