-- ==== Sys2Proof/Machine/Flags.lean ====
section
/-! DEFINITION. The flags of a link (R177): how each is set, how STATUS gives them (R181) and
how they are cleared.  REPORTS_LOST stands in the report unit. -/

namespace Sys2Proof.Machine

/-- The reception faults of R171, each with its flag. -/
inductive RxFault where
  | framing | gap | length | check | abandoned
  deriving DecidableEq, Repr

/-- R171: the flag a reception fault or an abandonment sets. -/
def LinkFlags.raise (f : LinkFlags) : RxFault → LinkFlags
  | .framing => { f with framing := true }
  | .gap => { f with gap := true }
  | .length => { f with length := true }
  | .check => { f with check := true }
  | .abandoned => { f with abandoned := true }

/-- R181 item 4: the flags as a set, FRAMING 0, GAP 1, LENGTH 2, CHECK 3, ABANDONED 4,
OVERFLOW 5, REPORTS_LOST 6. -/
def flagSet (f : LinkFlags) (lost : Bool) : Nat :=
  (if f.framing then 1 else 0) + (if f.gap then 2 else 0) + (if f.length then 4 else 0) +
  (if f.check then 8 else 0) + (if f.abandoned then 16 else 0) + (if f.overflow then 32 else 0) +
  (if lost then 64 else 0)

end Sys2Proof.Machine
end

