-- ==== Sys2Proof/Machine/Ops.lean ====
section
/-! DEFINITION. The named operations over State that every block uses: tables, the
description memory and its records, links, reports and answers, timers.  A block operation
has the form `Desc → … → Blocks → Blocks`: it reads the description and can change neither
the description, nor the pins, nor the queue. -/

namespace Sys2Proof.Machine

/-! ### Tables -/

/-- Entry i of a table, or the power-on entry for an index outside it. -/
def tabGet {α : Type} {n : Nat} (t : Vector α n) (dflt : α) (i : Nat) : α := t[i]?.getD dflt

/-- A table with entry i replaced; an index outside the table changes nothing. -/
def tabSet {α : Type} {n : Nat} (t : Vector α n) (i : Nat) (v : α) : Vector α n :=
  t.setIfInBounds i v

/-- Every entry of a table moved by a function. -/
def tabMap {α : Type} {n : Nat} (f : α → α) (t : Vector α n) : Vector α n :=
  ⟨⟨t.toList.map f⟩, by simp⟩

def PerLink.get {α : Type} (p : PerLink α) : LinkId → α
  | .a => p.a
  | .b => p.b
  | .c => p.c

def PerLink.set {α : Type} (p : PerLink α) (l : LinkId) (v : α) : PerLink α :=
  match l with
  | .a => { p with a := v }
  | .b => { p with b := v }
  | .c => { p with c := v }

/-- The links, in order. -/
def links3 : List LinkId := [.a, .b, .c]

def Blocks.sec (y : Blocks) (i : Nat) : SectionState := tabGet y.secs {} i
def Blocks.sig (y : Blocks) (i : Nat) : SignalState := tabGet y.sigs {} i
def Blocks.pt (y : Blocks) (i : Nat) : PointState := tabGet y.pts {} i
def Blocks.inst (y : Blocks) (i : Nat) : Option RouteInst := tabGet y.insts none i
def Blocks.road (y : Blocks) (i : Nat) : RoadState := tabGet y.roads {} i
def Blocks.area (y : Blocks) (i : Nat) : AreaState := tabGet y.areas {} i
def Blocks.link (y : Blocks) (l : LinkId) : LinkUnit := y.links.get l
def Blocks.rep (y : Blocks) (l : LinkId) : ReportUnit := y.reps.get l
def Blocks.mode (y : Blocks) : Mode := y.ctl.mode

def setSec (i : Nat) (v : SectionState) (y : Blocks) : Blocks := { y with secs := tabSet y.secs i v }
def setSig (i : Nat) (v : SignalState) (y : Blocks) : Blocks := { y with sigs := tabSet y.sigs i v }
def setPt (i : Nat) (v : PointState) (y : Blocks) : Blocks := { y with pts := tabSet y.pts i v }
def setInst (i : Nat) (v : Option RouteInst) (y : Blocks) : Blocks :=
  { y with insts := tabSet y.insts i v }
def setRoad (i : Nat) (v : RoadState) (y : Blocks) : Blocks := { y with roads := tabSet y.roads i v }
def setArea (i : Nat) (v : AreaState) (y : Blocks) : Blocks := { y with areas := tabSet y.areas i v }
def setLink (l : LinkId) (v : LinkUnit) (y : Blocks) : Blocks := { y with links := y.links.set l v }
def setRep (l : LinkId) (v : ReportUnit) (y : Blocks) : Blocks := { y with reps := y.reps.set l v }

/-- A command handed to the field port (log entry 18). -/
def emit (c : FieldCmd) (y : Blocks) : Blocks := { y with out := y.out ++ [c] }

/-! ### Description memory (R1, R2) -/

/-- The address of byte o of table t (log entry 21). -/
def descAddr (t o : Nat) : Nat := t * 65536 + o

/-- R2, R3: a byte that nothing has written reads 255. -/
def memDefault : Byte := 255

/-- Table 3: the size of a table in bytes. -/
def tableSize (t : Nat) : Nat :=
  match t with
  | 1 => 576
  | 2 => 192
  | 3 => 128
  | 4 => 15360
  | 5 => 384
  | 6 => 512
  | 7 => 12
  | 8 => 24
  | _ => 0

/-- One byte. -/
def memRead : List Host.Cell → Nat → Byte
  | [], _ => memDefault
  | (k, v) :: rest, a => if k = a then v else memRead rest a

/-- The list without the cell of address a. -/
def memErase : List Host.Cell → Nat → List Host.Cell
  | [], _ => []
  | (k, v) :: rest, a => if k = a then memErase rest a else (k, v) :: memErase rest a

/-- The list with one cell put at its place. -/
def memInsert : List Host.Cell → Nat → Byte → List Host.Cell
  | [], a, b => [(a, b)]
  | (k, v) :: rest, a, b =>
    if a < k then (a, b) :: (k, v) :: rest
    else if a = k then (a, b) :: rest
    else (k, v) :: memInsert rest a b

/-- One byte written; the form stays canonical. -/
def memWrite (m : List Host.Cell) (a : Nat) (b : Byte) : List Host.Cell :=
  if b = memDefault then memErase m a else memInsert m a b

/-- Bytes written from address a onward. -/
def memWriteAll : List Host.Cell → Nat → List Byte → List Host.Cell
  | m, _, [] => m
  | m, a, b :: bs => memWriteAll (memWrite m a b) (a + 1) bs

/-- Every address of the list lies above `lo`, addresses rise strictly, and no cell holds
what an unlisted address reads as. -/
def memWfFrom : Nat → List Host.Cell → Bool
  | _, [] => true
  | lo, (k, v) :: rest => decide (lo ≤ k) && decide (v ≠ memDefault) && memWfFrom (k + 1) rest

/-- The canonical form of the description memory. -/
def Memory.wf (m : List Host.Cell) : Bool := memWfFrom 0 m

/-- Byte o of table t. -/
def Desc.byte (d : Desc) (t o : Nat) : Nat := (memRead d.mem (descAddr t o)).toNat

/-- Two bytes, low byte first (R1). -/
def Desc.half (d : Desc) (t o : Nat) : Nat := d.byte t o + 256 * d.byte t (o + 1)

/-- An index field: 255 means none (R3). -/
def Desc.index (d : Desc) (t o : Nat) : Option Nat :=
  if d.byte t o = 255 then none else some (d.byte t o)

/-- A one-byte field with a default (R3). -/
def Desc.byteOr (d : Desc) (t o dflt : Nat) : Nat :=
  if d.byte t o = 255 then dflt else d.byte t o

/-- A two-byte field with a default (R3). -/
def Desc.halfOr (d : Desc) (t o dflt : Nat) : Nat :=
  if d.half t o = 65535 then dflt else d.half t o

/-! ### Records of the description (R4 to R11) -/

-- R4: section record of 6 bytes.
def Desc.secKind (d : Desc) (i : Nat) : Nat := d.byte 1 (6 * i)
def Desc.secArea (d : Desc) (i : Nat) : Nat := d.byte 1 (6 * i + 1)
def Desc.secRoad (d : Desc) (i : Nat) : Nat := d.byte 1 (6 * i + 2)
def Desc.secOuter (d : Desc) (i : Nat) : Nat := d.half 1 (6 * i + 3)
def Desc.secInput (d : Desc) (i : Nat) : Nat := d.byte 1 (6 * i + 5)
def Desc.secInUse (d : Desc) (i : Nat) : Bool := decide (i < 96) && decide (d.secKind i ≠ 255)
def Desc.secs (d : Desc) : List Nat := (List.range 96).filter d.secInUse

def kindPlain : Nat := 0
def kindPoint : Nat := 1
def kindMouth : Nat := 2
def kindCell : Nat := 3

-- R5: point record of 4 bytes.
def Desc.ptSec (d : Desc) (i : Nat) : Nat := d.byte 2 (4 * i)
def Desc.ptStroke (d : Desc) (i : Nat) : Nat := d.byteOr 2 (4 * i + 1) 120
def Desc.ptChannel (d : Desc) (i : Nat) : Nat := d.byte 2 (4 * i + 2)
def Desc.ptInUse (d : Desc) (i : Nat) : Bool := decide (i < 48) && decide (d.ptSec i ≠ 255)
def Desc.pts (d : Desc) : List Nat := (List.range 48).filter d.ptInUse
/-- R5: a point belongs to the area of its section. -/
def Desc.ptArea (d : Desc) (i : Nat) : Nat := d.secArea (d.ptSec i)

-- R6: signal record of 2 bytes.
def Desc.sigKind (d : Desc) (i : Nat) : Nat := d.byte 3 (2 * i)
def Desc.sigChannel (d : Desc) (i : Nat) : Nat := d.byte 3 (2 * i + 1)
def Desc.sigInUse (d : Desc) (i : Nat) : Bool := decide (i < 64) && decide (d.sigKind i ≠ 255)
def Desc.sigs (d : Desc) : List Nat := (List.range 64).filter d.sigInUse

def kindEntrance : Nat := 0
def kindRoadExit : Nat := 1

/-- R7, R184: a route definition. -/
structure RouteDef where
  entrance : Nat
  exit : Option Nat
  approach : Option Nat
  origin : Option Nat
  dest : Option Nat
  sections : List Nat
  points : List (Nat × Position)
  flanks : List (Nat × Position × Nat)
  inters : List (Nat × Nat)
  deriving DecidableEq, Repr

/-- Byte o of route definition record r. -/
def Desc.rtByte (d : Desc) (r o : Nat) : Nat := d.byte 4 (64 * r + o)
def Desc.rtLoaded (d : Desc) (r : Nat) : Bool := decide (r < 240) && decide (d.rtByte r 0 ≠ 255)

/-- The route definition record of 64 bytes, its lists as far as their counts (R184). -/
def Desc.route (d : Desc) (r : Nat) : RouteDef where
  entrance := d.rtByte r 0
  exit := d.index 4 (64 * r + 1)
  approach := d.index 4 (64 * r + 2)
  origin := d.index 4 (64 * r + 3)
  dest := d.index 4 (64 * r + 4)
  sections := (List.range (d.rtByte r 5)).map fun n => d.rtByte r (6 + n)
  points := (List.range (d.rtByte r 18)).map fun n =>
    (d.rtByte r (19 + 2 * n), positionOf (d.rtByte r (20 + 2 * n)))
  flanks := (List.range (d.rtByte r 35)).map fun n =>
    (d.rtByte r (36 + 3 * n), positionOf (d.rtByte r (37 + 3 * n)), d.rtByte r (38 + 3 * n))
  inters := (List.range (d.rtByte r 54)).map fun n =>
    (d.rtByte r (55 + 2 * n), d.rtByte r (56 + 2 * n))

-- R8: road record of 16 bytes.
def Desc.roadMouth (d : Desc) (i : Nat) : Nat := d.byte 5 (16 * i)
def Desc.roadExit (d : Desc) (i : Nat) : Nat := d.byte 5 (16 * i + 1)
def Desc.roadCellCount (d : Desc) (i : Nat) : Nat := d.byte 5 (16 * i + 2)
/-- The cell list, as far as its count and the room of six (log entry 20). -/
def Desc.roadCells (d : Desc) (i : Nat) : List Nat :=
  (List.range (min (d.roadCellCount i) 6)).map fun n => d.byte 5 (16 * i + 3 + n)
def Desc.roadL (d : Desc) (i : Nat) : Nat := d.half 5 (16 * i + 9)
def Desc.roadB (d : Desc) (i : Nat) : Nat := d.byteOr 5 (16 * i + 11) 20
def Desc.roadG (d : Desc) (i : Nat) : Nat := d.byteOr 5 (16 * i + 12) 30
def Desc.roadT (d : Desc) (i : Nat) : Nat := d.byteOr 5 (16 * i + 13) 15
def Desc.roadInUse (d : Desc) (i : Nat) : Bool := decide (i < 24) && decide (d.roadMouth i ≠ 255)

-- R9: call post record of 16 bytes.
def Desc.postKind (d : Desc) (i : Nat) : Nat := d.byte 6 (16 * i)
def Desc.postRoad (d : Desc) (i : Nat) : Nat := d.byte 6 (16 * i + 1)
def Desc.postRoute (d : Desc) (i : Nat) : Nat := d.byte 6 (16 * i + 2)
def Desc.postInUse (d : Desc) (i : Nat) : Bool := decide (i < 32) && decide (d.postKind i ≠ 255)
def Desc.postCandidates (d : Desc) (i : Nat) : List (Nat × Nat) :=
  (List.range (d.byte 6 (16 * i + 3))).map fun n =>
    (d.byte 6 (16 * i + 4 + 2 * n), d.byte 6 (16 * i + 5 + 2 * n))

-- R10: link record of 4 bytes.
def Desc.linkRole (d : Desc) (l : LinkId) : Nat := d.byte 7 (4 * linkCode l)
def Desc.linkAreas (d : Desc) (l : LinkId) : Nat := d.byte 7 (4 * linkCode l + 1)
def Desc.linkSub (d : Desc) (l : LinkId) : Nat := d.byte 7 (4 * linkCode l + 2)

-- R11: the timing and limits record.
def Desc.tClear (d : Desc) : Nat := d.byteOr 8 0 15
def Desc.tStroke (d : Desc) : Nat := d.byteOr 8 1 60
def Desc.tDead (d : Desc) : Nat := d.byteOr 8 2 3
def Desc.tolC (d : Desc) : Nat := d.byteOr 8 3 6
def Desc.driveLimit (d : Desc) : Nat := d.byteOr 8 4 3
def Desc.tApproach (d : Desc) : Nat := d.halfOr 8 5 600
def Desc.tStore (d : Desc) : Nat := d.halfOr 8 7 3000
def Desc.tArrive (d : Desc) : Nat := d.halfOr 8 9 1200
def Desc.tHold (d : Desc) : Nat := d.halfOr 8 11 50
def Desc.tCycle (d : Desc) : Nat := d.halfOr 8 13 600
def Desc.tQuiet (d : Desc) : Nat := d.halfOr 8 15 6000
def Desc.window (d : Desc) : Nat := d.byteOr 8 17 4
def Desc.defaultLength (d : Desc) : Nat := d.halfOr 8 18 330
def Desc.wakeAbort (d : Desc) : Bool := d.byteOr 8 20 0 == 1

/-- R4: the in-use section whose field input is n. -/
def Desc.secOfInput (d : Desc) (n : Nat) : Option Nat :=
  (List.range 96).find? fun i => d.secInUse i && (d.secInput i == n)

/-- R5: the in-use point whose field channel is n. -/
def Desc.ptOfChannel (d : Desc) (n : Nat) : Option Nat :=
  (List.range 48).find? fun i => d.ptInUse i && (d.ptChannel i == n)

/-! ### Links: reports and answers -/

/-- R169: pins 0 and 127 leave the unit without an individual address. -/
def Blocks.addressed (y : Blocks) : Bool :=
  decide (y.ctl.addr ≠ 0) && decide (y.ctl.addr ≠ 127)

/-- R175, R176, R169: one report joins a link's queue, or is dropped with REPORTS_LOST when
the queue is full, the link is in BREAK, or the unit has no address. -/
def postTo (l : LinkId) (f : Frame) (y : Blocks) : Blocks :=
  if (y.link l).rx = .inBreak ∨ y.addressed = false ∨ 16 ≤ (y.rep l).queue.length then
    setRep l { y.rep l with lost := true } y
  else setRep l { y.rep l with queue := (y.rep l).queue ++ [f] } y

/-- R175: does link l receive a report of class c, also named for link `extra`? -/
def receives (y : Blocks) (c : ReportClass) (extra : Option LinkId) (l : LinkId) : Bool :=
  hasBit (y.link l).subscription c.bit || extra == some l

/-- R175: a report of class c, posted once to each link that receives it. -/
def postAlso (c : ReportClass) (extra : Option LinkId) (body : List Byte) (y : Blocks) : Blocks :=
  (links3.filter (receives y c extra)).foldl (fun y l => postTo l ⟨c.kind, body⟩ y) y

/-- R175: a report of class c to its subscribers. -/
def post (c : ReportClass) (body : List Byte) (y : Blocks) : Blocks := postAlso c none body y

/-- An ALARM report (Table 30). -/
def alarm (code : Nat) (fields : List Byte) (y : Blocks) : Blocks :=
  post .alarm (b1 code ++ fields) y

/-- R17: a MODE report to every link, while no description is in force. -/
def postModeAll (old new : Mode) (y : Blocks) : Blocks :=
  links3.foldl
    (fun y l => postTo l ⟨ReportClass.mode.kind, b1 0 ++ b1 old.code ++ b1 new.code⟩ y) y

/-- R17: a change of mode under the description in force, with its MODE report. -/
def changeMode (new : Mode) (y : Blocks) : Blocks :=
  post .mode (b1 0 ++ b1 y.mode.code ++ b1 new.code) { y with ctl := { y.ctl with mode := new } }

/-- R17: a change of mode while no description is in force, with its MODE report. -/
def changeModeAll (new : Mode) (y : Blocks) : Blocks :=
  postModeAll y.mode new { y with ctl := { y.ctl with mode := new } }

/-- R173, R96: an answer placed in the link's buffer; at four answers it is discarded and
OVERFLOW is set. -/
def placeAnswer (l : LinkId) (kind : Byte) (body : List Byte) (y : Blocks) : Blocks :=
  if 4 ≤ (y.link l).answers.length then
    setLink l { y.link l with flags := { (y.link l).flags with overflow := true } } y
  else setLink l { y.link l with answers := (y.link l).answers ++ [⟨kind, body⟩] } y

/-- An answer of one result code and its data. -/
def answer (l : LinkId) (kind : Byte) (code : Nat) (data : List Byte) (y : Blocks) : Blocks :=
  placeAnswer l kind (b1 code ++ data) y

/-- WRONG_MODE with the present mode as data (Table 28). -/
def wrongMode (l : LinkId) (kind : Byte) (y : Blocks) : Blocks :=
  answer l kind rWrongMode (b1 y.mode.code) y

/-- R24, R76: a request taken in RUNNING only. -/
def inRunning (l : LinkId) (kind : Byte) (op : Blocks → Blocks) (y : Blocks) : Blocks :=
  if y.mode = .running then op y else wrongMode l kind y

/-- R168: answers held plus reserved places. -/
def LinkUnit.occupancy (u : LinkUnit) : Nat := u.answers.length + u.reserved

/-- R173: the transmitter, when idle, starts the oldest answer, else the oldest report.
DEDUCED (log entry 9): judged at the end of a step; a report leaves its queue when its frame
starts (log entry 10). -/
def startTx (l : LinkId) (y : Blocks) : Blocks :=
  if (y.link l).tx ≠ .idle ∨ (y.link l).rx = .inBreak ∨ y.addressed = false then y
  else
    match (y.link l).answers, (y.rep l).queue with
    | f :: _, _ => setLink l { y.link l with tx := .answer f } y
    | [], f :: rest =>
      setRep l { y.rep l with queue := rest } (setLink l { y.link l with tx := .report f } y)
    | [], [] => y

/-- R174: the hold-off line. -/
def judgeHoldOff (l : LinkId) (y : Blocks) : Blocks :=
  setLink l { y.link l with
    holdOff := (y.link l).staged.isSome || decide (2 ≤ (y.link l).occupancy) } y

/-- The end of every step: each transmitter and each hold-off line is judged. -/
def settle (y : Blocks) : Blocks :=
  links3.foldl (fun y l => judgeHoldOff l (startTx l y)) y

/-- The machine with its blocks moved by a block operation. -/
def onBlocks (op : Desc → Blocks → Blocks) (s : State) : State :=
  { s with blk := op s.desc s.blk }

/-- The machine at the end of a step. -/
def finish (s : State) : State := { s with blk := settle s.blk }

/-- The frame of R170 as characters on the line (section 11.5). -/
def frameChars (addr : BitVec 7) (f : Frame) : List Char9 :=
  let len : Byte := BitVec.ofNat 8 f.body.length
  let sum := f.body.foldl (fun acc b => acc + b) (f.kind + len)
  let data (b : Byte) : Char9 := b.setWidth 9
  (256 + addr.setWidth 9 : Char9) :: data f.kind :: data len :: (f.body.map data ++ [data (0 - sum)])

/-! ### Timers -/

/-- 0.1 s passes at a timer: a running timer falls by one unit, not below 0 (log entry 1). -/
def Timer.tick (t : Timer) : Timer := t.map fun r => r - 1

def SectionState.tick (v : SectionState) : SectionState := { v with timer := Timer.tick v.timer }

def PointState.tick (p : PointState) : PointState :=
  { p with
    strokeTimer := Timer.tick p.strokeTimer
    restTimer := Timer.tick p.restTimer
    learnTimer := Timer.tick p.learnTimer
    settleTimer := Timer.tick p.settleTimer }

def TestState.tick (t : TestState) : TestState :=
  { t with interval := Timer.tick t.interval, step := Timer.tick t.step }

def RouteInst.tick (i : RouteInst) : RouteInst := { i with timer := Timer.tick i.timer }

def WaitEntry.tick (e : WaitEntry) : WaitEntry := { e with life := e.life - 1 }

def RoadState.tick (r : RoadState) : RoadState :=
  { r with timer := r.timer.map fun t => { t with remaining := t.remaining - 1 } }

def Programme.tick (p : Programme) : Programme := { p with minuteTimer := Timer.tick p.minuteTimer }

/-- 0.1 s passes at every timer.  The expiries themselves are commands (log entries 1, 2). -/
def Blocks.tick (y : Blocks) : Blocks :=
  { y with
    ctl := { y.ctl with idleTimer := Timer.tick y.ctl.idleTimer }
    secs := tabMap SectionState.tick y.secs
    pts := tabMap PointState.tick y.pts
    tst := y.tst.tick
    insts := tabMap (Option.map RouteInst.tick) y.insts
    wait := y.wait.map WaitEntry.tick
    roads := tabMap RoadState.tick y.roads
    prog := y.prog.tick }

end Sys2Proof.Machine
end

