-- ==== Sys2Proof/Machine/Accept.lean ====
section
/-! DEFINITION. Acceptance of a whole frame (R172), and the shared
form of the READ answers (R38, R42, R65, R123, R146, R160, R167, R182). -/

namespace Sys2Proof.Machine

/-- R171: the end of a frame's reception: the gap timer stops, the state is HUNT. -/
def endFrame (l : LinkId) (y : Blocks) : Blocks :=
  setLink l { y.link l with rx := .hunt, buf := [], gapRunning := false } y

/-- R172: a request discarded at occupancy 4. -/
def overflowDiscard (l : LinkId) (y : Blocks) : Blocks :=
  setLink l { y.link l with flags := { (y.link l).flags with overflow := true } } y

/-- What the link unit makes of an individually addressed whole frame. -/
inductive Admission where
  /-- The line is in BREAK (R176), or the unit has no individual address (R169): no frame. -/
  | unheard
  /-- R172: occupancy 4. -/
  | overflow
  /-- R172: the first failing check gives the answer. -/
  | refuse (code : Nat)
  /-- R172: handed to the owner. -/
  | hand
  deriving DecidableEq, Repr

/-- R172: the checks of an individual frame of a kind and LEN. -/
def passFrame (d : Desc) (l : LinkId) (kind : Byte) (len : Nat) (y : Blocks) : Admission :=
  if (y.link l).rx = .inBreak ∨ y.addressed = false then .unheard
  else if 4 ≤ (y.link l).occupancy then .overflow
  else
    match catRow kind with
    | none => .refuse rUnknownKind
    | some r =>
      if r.len.ok len = false then .refuse rBadLength
      else if d.inForce = true ∧ r.permits (y.link l).role = false then .refuse rNotPermitted
      else .hand

/-- R172: an individual frame is taken; a frame that passes goes to the owner in the same
step. -/
def takeRequest (l : LinkId) (kind : Byte) (len : Nat) (owner : State → State) (s : State) : State :=
  match passFrame s.desc l kind len s.blk with
  | .unheard => s
  | .overflow => onBlocks (fun _ y => overflowDiscard l (endFrame l y)) s
  | .refuse code => onBlocks (fun _ y => answer l kind code [] (endFrame l y)) s
  | .hand => owner (onBlocks (fun _ y => endFrame l y) s)

/-- R172: a broadcast of a permitted kind and LEN is carried out whatever the occupancy, and is
never answered; the frame's reception ends. -/
def takeBroadcast (l : LinkId) (kind : Byte) (len : Nat) (op : Desc → Blocks → Blocks) (s : State) :
    State :=
  if (s.blk.link l).rx = .inBreak then s
  else
    let s := onBlocks (fun _ y => endFrame l y) s
    match catRow kind with
    | some r =>
      if r.len.ok len = true ∧ r.permits (s.blk.link l).role = true then onBlocks op s else s
    | none => s

/-- An event of a yard block: none is taken while no description is in force (R2, R17). -/
def yardEvent (op : Desc → Blocks → Blocks) : State → State :=
  onBlocks fun d y => if d.inForce then op d y else y

/-- The shared form of a READ answer: NOT_FOUND while no description is in force, BAD_VALUE
above the range, NOT_FOUND with no content, else DONE with the content. -/
def serveRead (l : LinkId) (kind : Byte) (max idx : Nat) (content : Option (List Byte)) (d : Desc)
    (y : Blocks) : Blocks :=
  if d.inForce = false then answer l kind rNotFound [] y
  else if max < idx then answer l kind rBadValue [] y
  else
    match content with
    | none => answer l kind rNotFound [] y
    | some c => answer l kind rDone c y

end Sys2Proof.Machine
end

