-- ==== Sys2Proof/Machine/Programme.lean ====
section
/-! DEFINITION. The programme sequencer (chapter 8) and the release events that reach it and
the waiting list (R98): window, not-before, auto-departure, offer, and the notices that finish
entries. -/

namespace Sys2Proof.Machine

/-- R147: DONE, FAILED or SKIPPED. -/
def ProgEntry.finished (e : ProgEntry) : Bool :=
  match e.state with
  | .done | .failed | .skipped => true
  | _ => false

/-- R148: a not-before minute is met by the clock. -/
def ProgEntry.met (e : ProgEntry) (clock : Option Nat) : Bool :=
  match e.notBefore, clock with
  | none, _ => true
  | some m, some c => decide (m ≤ c)
  | some _, none => false

/-- R150: CALLED, met and untried. -/
def ProgEntry.ready (e : ProgEntry) (clock : Option Nat) : Bool :=
  (e.state == .called) && e.met clock && !e.tried

/-- R149: is the entry at place i in the window of w unfinished entries? -/
def eligible (w : Nat) (es : List ProgEntry) (i : Nat) : Bool :=
  match es[i]? with
  | none => false
  | some e => !e.finished && decide (((es.take i).filter fun x => !x.finished).length < w)

/-- R150: the first ready entry among the first w unfinished becomes DISPATCHED. -/
def dispatchFirst (clock : Option Nat) : Nat → List ProgEntry → List ProgEntry
  | _, [] => []
  | w, e :: rest =>
    if e.finished then e :: dispatchFirst clock w rest
    else if w = 0 then e :: rest
    else if e.ready clock then { e with state := .dispatched } :: rest
    else e :: dispatchFirst clock (w - 1) rest

/-- R150: an entry is DISPATCHED. -/
def Programme.offering (p : Programme) : Bool := p.entries.any fun e => e.state == .dispatched

/-- R150: the offer, judged. -/
def judgeOffer (d : Desc) (y : Blocks) : Blocks :=
  if y.mode = .running ∧ y.prog.hold = false ∧ y.prog.offering = false then
    { y with prog := { y.prog with
        entries := dispatchFirst y.prog.clock d.window y.prog.entries } }
  else y

/-- R160: the body of an entry report.  DEDUCED (log entry 17): slot and outcome stand in
every entry report, 255 where there is none. -/
def entryBody (e : ProgEntry) (old new : EntryState) (slot : Option Nat) (o : Option Outcome) :
    List Byte :=
  b1 0 ++ b2 e.movement ++ b1 e.kind.code ++ b2 e.tram ++ b1 e.road ++ b1 old.code ++
    b1 new.code ++ o1 slot ++ outcomeBody o

/-- Entry i, replaced. -/
def setEntry (i : Nat) (e : ProgEntry) (y : Blocks) : Blocks :=
  { y with prog := { y.prog with entries := y.prog.entries.set i e } }

/-- R160: entry i changes state, with its outcome and its PROGRAMME report. -/
def moveEntry (i : Nat) (new : EntryState) (slot : Option Nat) (o : Option Outcome) (y : Blocks) :
    Blocks :=
  match y.prog.entries[i]? with
  | none => y
  | some e =>
    post .programme (entryBody e e.state new slot o) (setEntry i { e with state := new, outcome := o } y)

/-- R149: an auto-departure that is wanted now. -/
def ProgEntry.autoDue (e : ProgEntry) (clock : Option Nat) : Bool :=
  (e.kind == .depart) && e.auto && (e.state == .planned) && e.met clock

/-- R149: auto-departures, judged in RUNNING.  DESIGN CHOICE (log entry 36): several that fall due
at once become CALLED, and are reported, in list order. -/
def autoDepart (y : Blocks) : Blocks :=
  if y.mode = .running then
    (List.range y.prog.entries.length).foldl (fun y i =>
      match y.prog.entries[i]? with
      | some e => if e.autoDue y.prog.clock then moveEntry i .called none none y else y
      | none => y) y
  else y

/-- R98, R151: a release event clears the tried marks of the waiting list and of the
programme, and the offer is judged in the same step. -/
def releaseEvent (d : Desc) (y : Blocks) : Blocks :=
  judgeOffer d
    { y with
      wait := y.wait.map fun e => { e with tried := false }
      prog := { y.prog with entries := y.prog.entries.map fun e => { e with tried := false } } }

/-- The place of the first entry that meets a condition. -/
def findEntry (p : ProgEntry → Bool) (y : Blocks) : Option Nat := y.prog.entries.findIdx? p

/-- R152: the three notices of the road stack unit. -/
inductive RoadNotice where
  | arrived | arrivalDisagree | departed
  deriving DecidableEq, Repr

def RoadNotice.kind : RoadNotice → EntryKind
  | .arrived => .arrive
  | .arrivalDisagree => .arrive
  | .departed => .depart

/-- R152: a notice finishes the RUNNING entry that matches it; the offer follows. -/
def roadNotice (d : Desc) (n : RoadNotice) (road tram : Nat) (y : Blocks) : Blocks :=
  match findEntry (fun e => (e.state == .running) && (e.kind == n.kind) && (e.road == road) &&
      (e.tram == tram)) y with
  | none => y
  | some i =>
    judgeOffer d (match n with
      | .arrivalDisagree => moveEntry i .failed none (some .arrivalDisagree) y
      | _ => moveEntry i .done none none y)

/-- R153, second line: the entry's road is ARRIVING in phase SETTLING with its tram
outermost. -/
def settlingFor (y : Blocks) (e : ProgEntry) : Bool :=
  let r := y.road e.road
  (r.status == .arriving) && (r.phase == some .settling) &&
    (r.stack.getLast?.map (·.tram) == some e.tram)

/-- R153: the notice that an instance with a movement number has ended. -/
def endedNotice (d : Desc) (movement : Nat) (m : Manner) (y : Blocks) : Blocks :=
  match findEntry (fun e => e.movement == movement) y with
  | none => y
  | some i =>
    match y.prog.entries[i]? with
    | none => y
    | some e =>
      if e.state = .running then
        match m with
        | .sequential => y
        | .cancelled => judgeOffer d (moveEntry i .failed none (some .cancelled) y)
        | .handReleased =>
          if e.kind = .arrive ∧ settlingFor y e = true then y
          else judgeOffer d (moveEntry i .failed none (some .handReleased) y)
      else y

end Sys2Proof.Machine
end

