-- ==== Sys2Proof/Machine/Areas.lean ====
section
/-! DEFINITION. The area table (chapter 9): the grant condition and the grant (R161, R163). -/

namespace Sys2Proof.Machine

/-- R161: a point is busy while QUEUED, DEAD_TIME, DRIVING or LEARNING. -/
def PointState.busy (p : PointState) : Bool :=
  match p.drive with
  | .queued | .deadTime | .driving | .learning => true
  | _ => false

def Desc.areaSecs (d : Desc) (a : Nat) : List Nat := d.secs.filter fun i => d.secArea i == a
def Desc.areaPts (d : Desc) (a : Nat) : List Nat := d.pts.filter fun i => d.ptArea i == a

/-- R161: no section of the area locked, no point of the area busy. -/
def grantCondition (d : Desc) (y : Blocks) (a : Nat) : Bool :=
  ((d.areaSecs a).all fun i => (y.sec i).owner.isNone) &&
    ((d.areaPts a).all fun i => !(y.pt i).busy)

/-- R167: an AREA report: cause (REQUESTED 0, GRANTED 1, ENDED 2), area, states, key. -/
def areaReport (cause a : Nat) (old new : AreaStatus) (key : Nat) (y : Blocks) : Blocks :=
  post .area (b1 cause ++ b1 a ++ b1 old.code ++ b1 new.code ++ b1 key) y

/-- R163: the grant. -/
def grantArea (d : Desc) (a : Nat) (y : Blocks) : Blocks :=
  releaseEvent d
    (areaReport 1 a (y.area a).status .possessed (y.area a).key
      (setArea a { y.area a with status := .possessed } y))

/-- R163: an event for a section or point of area a; only a PENDING area takes it. -/
def judgeArea (d : Desc) (a : Nat) (y : Blocks) : Blocks :=
  if (y.area a).status = .pending ∧ grantCondition d y a = true then grantArea d a y else y

end Sys2Proof.Machine
end

