-- ==== Sys2Proof/Machine/Roads.lean ====
section
/-! DEFINITION. The road stack unit (chapter 7): lengths and geometry (R126 to R131),
agreement (R132, R133), reservations, arrivals and departures (R134 to R138), hand-offs
(R143), the road choice (R144) and ROAD reports (R145). -/

namespace Sys2Proof.Machine

/-! ### Lengths and geometry -/

/-- R128: centimetres to decimetres, rounded up. -/
def ceilDm (c : Nat) : Nat := (c + 9) / 10

/-- R126: the fleet table's entry for a tram. -/
def fleetFind (y : Blocks) (tram : Nat) : Option FleetEntry :=
  y.fleet.find? fun e => e.tram == tram

/-- R126: the length taken for a tram. -/
def tramLength (d : Desc) (y : Blocks) (tram : Nat) : Nat :=
  if tram = 0 then d.defaultLength
  else match fleetFind y tram with
    | some e => ceilDm e.lengthCm
    | none => d.defaultLength

/-- R126: a nonzero tram with no entry. -/
def unlisted (y : Blocks) (tram : Nat) : Bool := decide (tram ≠ 0) && (fleetFind y tram).isNone

/-- R126: UNLISTED_TRAM where it is due. -/
def alarmUnlisted (d : Desc) (road tram : Nat) (y : Blocks) : Blocks :=
  if unlisted y tram then alarm 11 (b2 tram ++ b1 road ++ b2 d.defaultLength) y else y

/-- R128: nominal start positions of records with these lengths, the first at s. -/
def startsFrom (g s : Nat) : List Nat → List Nat
  | [] => []
  | l :: rest => s :: startsFrom g (s + l + g) rest

/-- R128: the next slot P. -/
def nextStart (g s : Nat) : List Nat → Nat
  | [] => s
  | l :: rest => nextStart g (s + l + g) rest

/-- R129: some record's outer end lies beyond L. -/
def overruns (g L s : Nat) : List Nat → Bool
  | [] => false
  | l :: rest => decide (L < s + l) || overruns g L (s + l + g) rest

def RoadState.lengths (r : RoadState) : List Nat := r.stack.map (·.length)

/-- R128: P of road i. -/
def roadP (d : Desc) (y : Blocks) (i : Nat) : Nat :=
  nextStart (d.roadG i) (d.roadB i) (y.road i).lengths

/-- R129: F of road i. -/
def roadF (d : Desc) (y : Blocks) (i : Nat) : Nat := d.roadL i - roadP d y i

/-- R129: a tram of length l fits road i. -/
def fits (d : Desc) (y : Blocks) (i l : Nat) : Bool :=
  decide ((y.road i).stack.length < 8) && decide (roadP d y i + l ≤ d.roadL i)

/-- R130: half-open intervals overlap; an empty one overlaps nothing. -/
def overlaps (a b c e : Nat) : Bool :=
  decide (a < b) && decide (c < e) && decide (a < e) && decide (c < b)

/-- R130. -/
inductive Expectation where
  | occ | clear | either
  deriving DecidableEq, Repr

def Expectation.code : Expectation → Nat
  | .occ => 0 | .clear => 1 | .either => 2

/-- R130: the expectation of a cell spanning [lo, hi) for records at their start positions. -/
def expectation (t lo hi : Nat) (recs : List (StackRecord × Nat)) : Expectation :=
  if recs.any fun (r, s) =>
      (r.state != .departing) && overlaps (s + t) (s + r.length - t) lo hi then .occ
  else if recs.any fun (r, s) => overlaps (s - t) (s + r.length + t) lo hi then .either
  else .clear

/-- R131: the comparison of one cell. -/
def disagrees (o : Occupancy) (e : Expectation) : Bool :=
  match o, e with
  | .disturbed, _ => true
  | .clear, .occ => true
  | .occupied, .clear => true
  | _, _ => false

/-- The records of road i with their nominal start positions. -/
def placed (d : Desc) (y : Blocks) (i : Nat) : List (StackRecord × Nat) :=
  (y.road i).stack.zip (startsFrom (d.roadG i) (d.roadB i) (y.road i).lengths)

/-- One cell of a road as the comparison finds it. -/
structure CellView where
  sect : Nat
  occ : Occupancy
  expect : Expectation
  deriving DecidableEq, Repr

/-- R130, R131: the cells from outer end lo outward. -/
def cellViews (d : Desc) (y : Blocks) (t : Nat) (recs : List (StackRecord × Nat)) :
    Nat → List Nat → List CellView
  | _, [] => []
  | lo, c :: rest =>
    ⟨c, (y.sec c).occ, expectation t lo (d.secOuter c) recs⟩ ::
      cellViews d y t recs (d.secOuter c) rest

/-- The cells of road i, from the buffer stop. -/
def roadCellViews (d : Desc) (y : Blocks) (i : Nat) : List CellView :=
  cellViews d y (d.roadT i) (placed d y i) 0 (d.roadCells i)

def CellView.bad (c : CellView) : Bool := disagrees c.occ c.expect

/-- R131: the road agrees when no cell disagrees. -/
def roadAgrees (d : Desc) (y : Blocks) (i : Nat) : Bool := (roadCellViews d y i).all fun c => !c.bad

/-- R131, R178: the set of disagreeing cells, cell j at bit j - 1. -/
def badSet (d : Desc) (y : Blocks) (i : Nat) : Nat :=
  bitSet (((roadCellViews d y i).zipIdx.filter fun (c, _) => c.bad).map (·.2))

/-! ### Reports -/

/-- The outermost record, or none: 65535, 65535, 255 (log entry 17). -/
def topBody (r : RoadState) : List Byte :=
  match r.stack.getLast? with
  | some t => b2 t.tram ++ b2 t.length ++ b1 t.state.code
  | none => b2 65535 ++ b2 65535 ++ b1 255

/-- R145: a ROAD report; `extra` holds the tram for DEPARTED and GIVEN_UP. -/
def roadReport (d : Desc) (cause i : Nat) (extra : List Byte) (y : Blocks) : Blocks :=
  let r := y.road i
  post .road
    (b1 cause ++ b1 i ++ b1 r.status.code ++ o1 (r.phase.map ArrivalPhase.code) ++
      b1 r.stack.length ++ b2 (roadP d y i) ++ b2 (roadF d y i) ++ topBody r ++
      b1 (badSet d y i) ++ extra) y

def cRoadReserved : Nat := 0
def cRoadSettling : Nat := 1
def cRoadStabled : Nat := 2
def cRoadDisagree : Nat := 3
def cRoadDeparted : Nat := 4
def cRoadGivenUp : Nat := 5
def cRoadDeclared : Nat := 6
def cRoadConfirmed : Nat := 7
def cRoadBlocked : Nat := 8
def cRoadUnblocked : Nat := 9

/-- ROAD_DISAGREE (R133, R136): road, cause HOLD 0 or ARRIVAL 1, tram, cells. -/
def alarmDisagree (d : Desc) (i cause : Nat) (tram : Option Nat) (y : Blocks) : Blocks :=
  alarm 10 (b1 i ++ b1 cause ++ o2 tram ++ b1 (badSet d y i)) y

/-! ### Agreement -/

/-- R133: the judgement of an IDLE road acts on its HOLD timer. -/
def judgeIdle (d : Desc) (i : Nat) (y : Blocks) : Blocks :=
  let r := y.road i
  if roadAgrees d y i then setRoad i { r with timer := none } y
  else match r.timer with
    | some _ => y
    | none => setRoad i { r with timer := some ⟨.hold, d.tHold⟩ } y

/-- R143: what entering IDLE hands on, after the judgement of R133. -/
def enterIdle (d : Desc) (i : Nat) (y : Blocks) : Blocks := releaseEvent d (judgeIdle d i y)

/-- The outermost record with another state. -/
def setTop (st : RecordState) : List StackRecord → List StackRecord
  | [] => []
  | [r] => [{ r with state := st }]
  | r :: rest => r :: setTop st rest

/-- The tram of the outermost record. -/
def RoadState.topTram (r : RoadState) : Nat := (r.stack.getLast?.map (·.tram)).getD 0

/-- R135: an arrival completes by agreement. -/
def completeArrival (d : Desc) (i : Nat) (y : Blocks) : Blocks :=
  let r := y.road i
  let y := setRoad i { r with status := .idle, phase := none, timer := none,
                              stack := setTop .stabled r.stack } y
  let y := roadReport d cRoadStabled i [] y
  let y := roadNotice d .arrived i r.topTram y
  enterIdle d i y

/-- R132: a judgement of road i, in IDLE and in SETTLING only. -/
def judgeRoad (d : Desc) (i : Nat) (y : Blocks) : Blocks :=
  match (y.road i).status, (y.road i).phase with
  | .idle, _ => judgeIdle d i y
  | .arriving, some .settling => if roadAgrees d y i then completeArrival d i y else y
  | _, _ => y

/-- R132, R33: a change of section s is judged when s is a cell of a road. -/
def roadTakesChange (d : Desc) (s : Nat) (y : Blocks) : Blocks :=
  if d.secKind s = kindCell then judgeRoad d (d.secRoad s) y else y

/-! ### Reservations -/

/-- R134: origin road. -/
def reserveOrigin (d : Desc) (i : Nat) (y : Blocks) : Blocks :=
  let r := y.road i
  roadReport d cRoadReserved i []
    (setRoad i { r with status := .departing, timer := none, stack := setTop .departing r.stack } y)

/-- R134: destination road. -/
def reserveDest (d : Desc) (i tram : Nat) (y : Blocks) : Blocks :=
  let y := alarmUnlisted d i tram y
  let r := y.road i
  roadReport d cRoadReserved i []
    (setRoad i { r with status := .arriving, phase := some .reserved, timer := none,
                        stack := r.stack ++ [⟨tram, tramLength d y tram, .arriving⟩] } y)

/-- R114: the direction of an instance's road notice. -/
inductive Direction where
  | arrival | departure
  deriving DecidableEq, Repr

/-- R135, R137: MOUTH_PASSED. -/
def mouthPassed (d : Desc) (dir : Direction) (i : Nat) (y : Blocks) : Blocks :=
  let r := y.road i
  match dir with
  | .arrival =>
    if r.status = .arriving ∧ r.phase = some .reserved then
      if roadAgrees d y i then completeArrival d i y
      else roadReport d cRoadSettling i []
        (setRoad i { r with phase := some .settling, timer := some ⟨.arrive, d.tArrive⟩ } y)
    else y
  | .departure =>
    if r.status = .departing then
      let y := setRoad i { r with status := .idle, stack := r.stack.dropLast } y
      let y := roadReport d cRoadDeparted i (b2 r.topTram) y
      let y := roadNotice d .departed i r.topTram y
      enterIdle d i y
    else y

/-- R138: RESERVATION_GIVEN_UP. -/
def givenUp (d : Desc) (dir : Direction) (i : Nat) (y : Blocks) : Blocks :=
  let r := y.road i
  match dir with
  | .arrival =>
    if r.status = .arriving ∧ r.phase = some .reserved then
      let y := setRoad i { r with status := .idle, phase := none, stack := r.stack.dropLast } y
      enterIdle d i (roadReport d cRoadGivenUp i (b2 r.topTram) y)
    else y
  | .departure =>
    if r.status = .departing then
      let y := setRoad i { r with status := .idle, stack := setTop .stabled r.stack } y
      enterIdle d i (roadReport d cRoadGivenUp i (b2 r.topTram) y)
    else y

/-! ### Timer expiries -/

/-- R133: the HOLD timer of an IDLE road expires. -/
def holdExpiry (d : Desc) (i : Nat) (y : Blocks) : Blocks :=
  let r := y.road i
  match r.timer with
  | some ⟨.hold, _⟩ =>
    let y := setRoad i { r with status := .disagree, timer := none } y
    roadReport d cRoadDisagree i [] (alarmDisagree d i 0 none y)
  | _ => y

/-- R136: the ARRIVE timer of a SETTLING arrival expires. -/
def arriveExpiry (d : Desc) (i : Nat) (y : Blocks) : Blocks :=
  let r := y.road i
  match r.timer with
  | some ⟨.arrive, _⟩ =>
    let y := setRoad i { r with status := .disagree, phase := none, timer := none,
                                stack := setTop .stabled r.stack } y
    let y := alarmDisagree d i 1 (some r.topTram) y
    let y := roadReport d cRoadDisagree i [] y
    roadNotice d .arrivalDisagree i r.topTram y
  | _ => y

/-! ### Questions -/

/-- R88: the road in whose stack a tram stands, if any. -/
def roadOfTram (d : Desc) (y : Blocks) (tram : Nat) : Option Nat :=
  (List.range 24).find? fun i => d.roadInUse i && (y.road i).stack.any fun r => r.tram == tram

/-- R144: the first candidate whose road is IDLE and fits. -/
def chooseRoad (d : Desc) (y : Blocks) (post tram : Nat) : Option (Nat × Nat) :=
  (d.postCandidates post).find? fun (road, _) =>
    ((y.road road).status == .idle) && fits d y road (tramLength d y tram)

end Sys2Proof.Machine
end

