-- ==== Sys2Proof/Machine/Sections.lean ====
section
/-! DEFINITION. The section monitor's records (R34 to R37) and the signal driver (R39 to R41):
locks, marks, reports, owners and aspects. -/

namespace Sys2Proof.Machine

/-! ### Sections -/

/-- DISTURBED counts as occupied for every check (R25). -/
def Occupancy.busy (o : Occupancy) : Bool := o != .clear

def Blocks.secBusy (y : Blocks) (i : Nat) : Bool := (y.sec i).occ.busy

def cSecOccupancy : Nat := 0
def cSecLocked : Nat := 1
def cSecUnlocked : Nat := 2
def cSecFault : Nat := 3

/-- R37: a SECTION report of the state as it stands, with the old occupancy. -/
def sectionReport (cause i : Nat) (old : Occupancy) (y : Blocks) : Blocks :=
  let v := y.sec i
  post .sect
    (b1 cause ++ b1 i ++ b1 old.code ++ b1 v.occ.code ++ o1 v.owner ++ flag v.wasOccupied ++
      flag v.releaseFault) y

/-- R34: the section is locked to an instance. -/
def lockSection (slot i : Nat) (y : Blocks) : Blocks :=
  sectionReport cSecLocked i (y.sec i).occ (setSec i { y.sec i with owner := some slot } y)

/-- R34: the section is unlocked; both marks go with the owner. -/
def unlockSection (i : Nat) (y : Blocks) : Blocks :=
  sectionReport cSecUnlocked i (y.sec i).occ
    (setSec i { y.sec i with owner := none, wasOccupied := false, releaseFault := false } y)

/-- R35. -/
def markOccupied (i : Nat) (y : Blocks) : Blocks :=
  setSec i { y.sec i with wasOccupied := true } y

/-- R36: a mark already set changes nothing and posts no report. -/
def markFault (i : Nat) (y : Blocks) : Blocks :=
  if (y.sec i).releaseFault then y
  else sectionReport cSecFault i (y.sec i).occ (setSec i { y.sec i with releaseFault := true } y)

/-! ### Signals -/

/-- R39, R41: one aspect command at each change of aspect. -/
def setAspect (d : Desc) (a : Aspect) (g : Nat) (y : Blocks) : Blocks :=
  if (y.sig g).aspect = a then y
  else emit (.aspect (d.sigChannel g) a) (setSig g { y.sig g with aspect := a } y)

/-- R40: the entrance signal of a new instance. -/
def ownSignal (slot g : Nat) (y : Blocks) : Blocks :=
  setSig g { y.sig g with owner := some slot } y

/-- R40: clearing the owner drives the aspect to STOP. -/
def disownSignal (d : Desc) (g : Nat) (y : Blocks) : Blocks :=
  let y := setAspect d .stop g y
  setSig g { y.sig g with owner := none } y

end Sys2Proof.Machine
end

