-- ==== Sys2Proof/Machine/Instances.lean ====
section
/-! DEFINITION. The route instance table, but for the releases (chapter 6): what an instance
holds (R103), SETTING to OPEN (R104, R105), trouble and stalls (R106, R107), and its ROUTE
reports (R122). -/

namespace Sys2Proof.Machine

/-- The slots in order. -/
def slots24 : List Nat := List.range 24

/-- R92, R103: the last claimed section index of a shortened instance is that of its stop
signal. -/
def claimedUpTo (rt : RouteDef) (v : RouteInst) : Option Nat :=
  v.shortenedAt.bind fun g => (rt.inters.find? fun (s, _) => s == g).map (·.2)

/-- R103: the point requirements held: those whose section is unreleased. -/
def heldPoints (d : Desc) (v : RouteInst) : List (Nat × Position) :=
  (d.route v.definition).points.filter fun (p, _) => v.unreleased.contains (d.ptSec p)

/-- R103: the flank requirements held: claimed, release-with index at or above the release
index. -/
def heldFlanks (d : Desc) (v : RouteInst) : List (Nat × Position × Nat) :=
  let rt := d.route v.definition
  rt.flanks.filter fun (_, _, w) =>
    decide (v.releaseIndex ≤ w) && match claimedUpTo rt v with
      | some k => decide (w ≤ k)
      | none => true

/-- R103: every point held, with the position the instance requires. -/
def heldAll (d : Desc) (v : RouteInst) : List (Nat × Position) :=
  heldPoints d v ++ (heldFlanks d v).map fun (p, x, _) => (p, x)

/-- R103: the position in which the instance holds point p, if it holds it. -/
def heldPos (d : Desc) (v : RouteInst) (p : Nat) : Option Position :=
  ((heldAll d v).find? fun (q, _) => q == p).map (·.2)

/-- R102: has been entered. -/
def hasBeenEntered (y : Blocks) (v : RouteInst) : Bool :=
  decide (0 < v.releaseIndex) || v.unreleased.any fun i => (y.sec i).wasOccupied

/-- R103: the destination road, which a shortened instance does not have. -/
def RouteInst.dest (v : RouteInst) (d : Desc) : Option Nat :=
  if v.shortenedAt.isSome then none else (d.route v.definition).dest

def RouteInst.origin (v : RouteInst) (d : Desc) : Option Nat := (d.route v.definition).origin

def RouteInst.entrance (v : RouteInst) (d : Desc) : Nat := (d.route v.definition).entrance

/-! ### ROUTE reports -/

def cClaimed : Nat := 0
def cShortened : Nat := 1
def cFromStore : Nat := 2
def cStoreFailed : Nat := 3
def cExpired : Nat := 4
def cWithdrawn : Nat := 5
def cState : Nat := 6
def cReleased : Nat := 7

/-- Section 11.4: the common part of a ROUTE report. -/
def routeCommon (cause : Nat) (slot : Option Nat) (definition : Nat) (l : LinkId)
    (tram movement : Option Nat) : List Byte :=
  b1 cause ++ o1 slot ++ b1 definition ++ b1 (linkCode l) ++ o2 tram ++ o2 movement

/-- The common part for a live instance. -/
def instCommon (cause slot : Nat) (v : RouteInst) : List Byte :=
  routeCommon cause (some slot) v.definition v.link v.tram v.movement

/-- R122, section 11.4: the STATE report. -/
def stateReport (d : Desc) (slot : Nat) (old : InstState) (v : RouteInst) (y : Blocks) : Blocks :=
  post .route
    (instCommon cState slot v ++ b1 old.code ++ b1 v.state.code ++ b1 (v.entrance d) ++
      b1 (y.sig (v.entrance d)).aspect.code ++ o1 (v.stallCause.map StallCause.code) ++
      o1 (v.stallCause.map StallCause.element)) y

/-- A change of an instance's record with its STATE report. -/
def changeInst (d : Desc) (slot : Nat) (old v : RouteInst) (y : Blocks) : Blocks :=
  stateReport d slot old.state v (setInst slot (some v) y)

/-! ### SETTING to OPEN -/

/-- R104: the conditions. -/
def mayOpen (d : Desc) (y : Blocks) (v : RouteInst) : Bool :=
  ((heldAll d v).all fun (p, x) => (y.pt p).presented.isAt x) &&
    v.unreleased.all fun i => (y.sec i).occ == .clear

/-- R104, R105: an instance in SETTING is judged. -/
def judgeOpen (d : Desc) (slot : Nat) (y : Blocks) : Blocks :=
  match y.inst slot with
  | none => y
  | some v =>
    if v.state = .setting ∧ mayOpen d y v = true then
      changeInst d slot v { v with state := .opened, approachLocked := true }
        (setAspect d .proceed (v.entrance d) y)
    else y

/-! ### Stalls -/

/-- R107: a stall; an OPEN instance's signal goes to STOP in the same step. -/
def stall (d : Desc) (slot : Nat) (v : RouteInst) (c : StallCause) (y : Blocks) : Blocks :=
  let y := if v.state = .opened then setAspect d .stop (v.entrance d) y else y
  changeInst d slot v { v with state := .stalled, stallCause := some c } y

/-- R106, R107: trouble that is always trouble, for one instance. -/
def troubleAt (d : Desc) (p : Nat) (c : StallCause) (slot : Nat) (y : Blocks) : Blocks :=
  match y.inst slot with
  | none => y
  | some v =>
    if (heldPos d v p).isSome then
      match v.state with
      | .setting | .opened | .entered => stall d slot v c y
      | _ => y
    else y

/-- R103, R106: the event is taken for every instance that holds the point. -/
def trouble (d : Desc) (p : Nat) (c : StallCause) (y : Blocks) : Blocks :=
  slots24.foldl (fun y slot => troubleAt d p c slot y) y

/-- R104, R106: a detection change, for one instance that holds the point. -/
def detectionAt (d : Desc) (p : Nat) (old new : Detection) (slot : Nat) (y : Blocks) : Blocks :=
  match y.inst slot with
  | none => y
  | some v =>
    match heldPos d v p with
    | none => y
    | some x =>
      match v.state with
      | .setting => judgeOpen d slot y
      | .opened | .entered =>
        if old.isAt x && !(new.isAt x) then stall d slot v (.pointLost p) y else y
      | _ => y

def instDetection (d : Desc) (p : Nat) (old new : Detection) (y : Blocks) : Blocks :=
  slots24.foldl (fun y slot => detectionAt d p old new slot y) y

/-- R104: a drive ending without trouble leads to the judgement of each holder. -/
def endingAt (d : Desc) (p : Nat) (slot : Nat) (y : Blocks) : Blocks :=
  match y.inst slot with
  | none => y
  | some v => if (heldPos d v p).isSome then judgeOpen d slot y else y

def instEnding (d : Desc) (p : Nat) (y : Blocks) : Blocks :=
  slots24.foldl (fun y slot => endingAt d p slot y) y

end Sys2Proof.Machine
end

