-- ==== Sys2Proof/Machine/Points.lean ====
section
/-! DEFINITION. The point controller (chapter 3): detection, drives, the queue and the slots,
locks, unbidden movement and learning, with what it hands on (R43 to R64). -/

namespace Sys2Proof.Machine

/-! ### One point -/

/-- R47, R51: the contact and count conditions of NORMAL. -/
def PointState.atNormal (p : PointState) (tol : Nat) : Bool :=
  p.normalMade && !p.reverseMade && decide (p.count ≤ tol)

/-- R47, R51: the contact and count conditions of REVERSE. -/
def PointState.atReverse (p : PointState) (tol : Nat) : Bool :=
  p.reverseMade && !p.normalMade && decide (p.strokeRef ≤ p.count + tol)

/-- R51: the conditions of a target. -/
def PointState.meets (p : PointState) (tol : Nat) : Option Position → Bool
  | some .normal => p.atNormal tol
  | some .reverse => p.atReverse tol
  | none => false

/-- R47: the first line that applies. -/
def PointState.detect (p : PointState) (tol : Nat) : Detection :=
  if p.drive = .learning then .learning
  else if p.latch then .lost
  else if p.atNormal tol then .normal
  else if p.atReverse tol then .reverse
  else if !p.normalMade && !p.reverseMade && (p.drive == .deadTime || p.drive == .driving) then
    .moving
  else .lost

/-- R47: a made contact disagrees with the count, or both contacts are made. -/
def PointState.mismatched (p : PointState) (tol : Nat) : Bool :=
  (p.normalMade && p.reverseMade) || (p.normalMade && decide (tol < p.count)) ||
    (p.reverseMade && decide (p.count + tol < p.strokeRef))

/-- A point's record moved by a function. -/
def modPt (i : Nat) (f : PointState → PointState) (y : Blocks) : Blocks := setPt i (f (y.pt i)) y

/-! ### Reports and detection -/

def cDetection : Nat := 0
def cDriveDone : Nat := 1
def cDriveFailed : Nat := 2
def cDriveWithdrawn : Nat := 3
def cReversed : Nat := 4
def cLocks : Nat := 5
def cBlocked : Nat := 6
def cUnblocked : Nat := 7
def cLearned : Nat := 8
def cLearnFailed : Nat := 9

/-- R64: a POINT report of the point as it stands. -/
def pointReport (cause i : Nat) (y : Blocks) : Blocks :=
  let p := y.pt i
  post .point
    (b1 cause ++ b1 i ++ b1 p.presented.code ++ b1 p.drive.code ++
      o1 (p.target.map Position.code) ++ b1 p.count ++ b1 p.strokeRef ++ o1 p.routeOwner ++
      b1 p.flankCount ++ o1 (p.flankPos.map Position.code) ++ flag p.blocked) y

/-- R47: the mismatch mark and its alarm, outside LEARNING. -/
def judgeMismatch (d : Desc) (i : Nat) (y : Blocks) : Blocks :=
  let p := y.pt i
  if p.drive = .learning then y
  else if p.mismatched d.tolC then
    if p.mismatch then y
    else alarm 6 (b1 i ++ b1 (contactCode p.normalMade) ++ b1 (contactCode p.reverseMade) ++
        b1 p.count) (setPt i { p with mismatch := true } y)
  else setPt i { p with mismatch := false } y

/-- R48: the presented detection takes a value; a change is reported and handed to the route
instance table (report first: log entry 11). -/
def present (d : Desc) (i : Nat) (v : Detection) (y : Blocks) : Blocks :=
  let old := (y.pt i).presented
  if v = old then y
  else instDetection d i old v (pointReport cDetection i (modPt i ({ · with presented := v }) y))

/-- R47, R48: the detection is recomputed; under test the presented value is held. -/
def recompute (d : Desc) (i : Nat) (y : Blocks) : Blocks :=
  let y := judgeMismatch d i y
  let v := (y.pt i).detect d.tolC
  let y := modPt i ({ · with computed := v }) y
  if (y.pt i).underTest then y else present d i v y

/-! ### Endings -/

/-- R56: outcomes of a drive. -/
inductive Ending where
  | done | failed | withdrawn | learned | learnFailed
  deriving DecidableEq, Repr

def Ending.cause : Ending → Nat
  | .done => cDriveDone
  | .failed => cDriveFailed
  | .withdrawn => cDriveWithdrawn
  | .learned => cLearned
  | .learnFailed => cLearnFailed

/-- R56: every ending goes to the route instance table, the area table, the test scheduler
(`tests`: R71 counts it as tested) and is a release event. -/
def driveEnding (d : Desc) (i : Nat) (e : Ending) (tests : Bool) (y : Blocks) : Blocks :=
  let y := pointReport e.cause i y
  let y := match e with
    | .failed => trouble d i (.driveFailed i) y
    | .withdrawn => trouble d i (.driveWithdrawn i) y
    | _ => instEnding d i y
  let y := judgeArea d (d.ptArea i) y
  let y := if tests then modPt i ({ · with tested := true }) y else y
  releaseEvent d y

/-- The drive output, with its command to the field port. -/
def setOutput (d : Desc) (i : Nat) (x : Option Position) (y : Blocks) : Blocks :=
  if (y.pt i).output = x then y
  else emit (.drive (d.ptChannel i) x) (modPt i ({ · with output := x }) y)

/-- R51, R52, R63: the output goes off; if it was on, the rest timer starts in its
direction. -/
def outputOff (d : Desc) (i : Nat) (y : Blocks) : Blocks :=
  match (y.pt i).output with
  | none => y
  | some x =>
    setOutput d i none (modPt i ({ · with restTimer := some d.tDead, restDir := x }) y)

/-- A slot given back. -/
def freeSlot (y : Blocks) : Blocks := { y with slots := y.slots - 1 }

/-- R51 step 3, R54, R63: a drive leaves the queue or frees its slot. -/
def leaveDrive (i : Nat) (y : Blocks) : Blocks :=
  match (y.pt i).drive, (y.pt i).phase with
  | .queued, _ => { y with queue := y.queue.erase i }
  | .deadTime, _ | .driving, _ => freeSlot y
  | .learning, some .waiting => { y with queue := y.queue.erase i }
  | .learning, some _ => freeSlot y
  | _, _ => y

/-- The end of every drive and learning: reference count, excursion mark, target. -/
def settleDrive (i : Nat) (st : DriveState) (y : Blocks) : Blocks :=
  modPt i (fun p => { p with drive := st, target := none, strokeTimer := none,
                             refCount := p.count, excursion := false }) y

/-- R51: completion, but for the grant of a freed slot. -/
def completeDrive (d : Desc) (i : Nat) (y : Blocks) : Blocks :=
  let y := outputOff d i y
  let y := leaveDrive i y
  let y := modPt i ({ · with latch := false }) (settleDrive i .idle y)
  let y := recompute d i y
  driveEnding d i .done true y

/-- R54, R55, R63: a drive or a waiting learning is withdrawn; in DEAD_TIME the rest timer runs on.
That a withdrawn learning sets the reference count too is the model's reading (log entry 14). -/
def withdrawDrive (d : Desc) (i : Nat) (y : Blocks) : Blocks :=
  let y := leaveDrive i y
  let y := modPt i ({ · with phase := none, measured := none }) (settleDrive i .idle y)
  let y := recompute d i y
  driveEnding d i .withdrawn false y

/-! ### Learning -/

/-- R63: the causes of a failed learning, in its order (log entry 17). -/
inductive LearnFault where
  | judgement | timer | phaseFault | awayFromNormal
  deriving DecidableEq, Repr

def LearnFault.code : LearnFault → Nat
  | .judgement => 0 | .timer => 1 | .phaseFault => 2 | .awayFromNormal => 3

/-- R63: the learning timers stop and the phase ends. -/
def clearLearning (p : PointState) : PointState :=
  { p with phase := none, measured := none, learnTimer := none, settleTimer := none }

/-- R63: a learning was granted a slot. -/
def granted (p : PointState) : Bool := p.phase != some .waiting

/-- R63: failure, but for the grant of the freed slot.  R63 does not place the recomputation against
the alarm: that LEARN_FAIL stands before a COUNT_MISMATCH of the recomputation is the model's order
(log entry 11); that the reference count is set is its reading (log entry 14). -/
def failLearning (d : Desc) (i : Nat) (why : LearnFault) (y : Blocks) : Blocks :=
  let tests := granted (y.pt i)
  let m := (y.pt i).measured
  let y := outputOff d i y
  let y := leaveDrive i y
  let y := modPt i clearLearning (settleDrive i .failed y)
  let y := alarm 9 (b1 i ++ b1 why.code ++ o1 m) y
  let y := recompute d i y
  driveEnding d i .learnFailed tests y

/-- R63: success, but for the grant of the freed slot. -/
def succeedLearning (d : Desc) (i : Nat) (m : Nat) (y : Blocks) : Blocks :=
  let y := leaveDrive i y
  let y := modPt i (fun p => { p with strokeRef := m, learned := true, count := p.learnCount,
                                      latch := false }) y
  let y := modPt i clearLearning (settleDrive i .idle y)
  let y := recompute d i y
  driveEnding d i .learned true y

/-- R63: the judgement at the normal contact make in RETURN. -/
def judgeLearning (d : Desc) (i : Nat) (y : Blocks) : Blocks :=
  match (y.pt i).measured with
  | some m =>
    if 60 ≤ m ∧ m ≤ 200 ∧ (y.pt i).learnCount ≤ d.tolC then succeedLearning d i m y
    else failLearning d i .judgement y
  | none => failLearning d i .judgement y

/-- R62: a WAITING learning is granted a slot. -/
def startLearning (d : Desc) (i : Nat) (y : Blocks) : Blocks :=
  let y := modPt i (fun p => { p with learnCount := p.count, learnTimer := some (2 * d.tStroke),
                                      phase := some .outward }) y
  let p := y.pt i
  if !(p.atNormal d.tolC) then failLearning d i .awayFromNormal y
  else if p.restTimer.isSome && (p.restDir == .normal) then y
  else setOutput d i (some .reverse) y

/-! ### Grants -/

/-- R50, R51, R62: one grant, to a point taken out of the queue.  A drive whose target
conditions hold completes without the output being switched on (log entry 12). -/
def grantTo (d : Desc) (i : Nat) (y : Blocks) : Blocks :=
  let y := { y with queue := y.queue.erase i, slots := y.slots + 1 }
  let p := y.pt i
  if p.drive = .learning then startLearning d i y
  else if p.meets d.tolC p.target then
    completeDrive d i (modPt i ({ · with drive := .deadTime }) y)
  else if p.restTimer.isSome && (some p.restDir != p.target) then
    recompute d i (modPt i ({ · with drive := .deadTime }) y)
  else
    let y := modPt i ({ · with drive := .driving, strokeTimer := some d.tStroke }) y
    recompute d i (setOutput d i p.target y)

/-- R50: the first queued point that is not under test. -/
def nextQueued (y : Blocks) : Option Nat := y.queue.find? fun i => !(y.pt i).underTest

/-- R50: grants while a slot is free and a point is to be granted; every grant takes one
point out of the queue, so its length bounds them. -/
def grantLoop (d : Desc) : Nat → Blocks → Blocks
  | 0, y => y
  | n + 1, y =>
    if y.slots < d.driveLimit then
      match nextQueued y with
      | some i => grantLoop d n (grantTo d i y)
      | none => y
    else y

/-- R50: the drive slots are granted. -/
def grantSlots (d : Desc) (y : Blocks) : Blocks := grantLoop d y.queue.length y

/-! ### Commands -/

/-- R53: reversal. -/
def reverseDrive (d : Desc) (i : Nat) (x : Position) (y : Blocks) : Blocks :=
  let y :=
    if (y.pt i).drive = .driving then modPt i ({ · with strokeTimer := none }) (outputOff d i y)
    else modPt i ({ · with restTimer := some d.tDead }) y
  let y := modPt i ({ · with drive := .deadTime, target := some x }) y
  pointReport cReversed i (recompute d i y)

/-- R49: a command that is complete at once. -/
def commandDone (i : Nat) (y : Blocks) : Blocks :=
  pointReport cDriveDone i (modPt i ({ · with drive := .idle, target := none }) y)

/-- R49: a drive command. -/
def driveCommand (d : Desc) (i : Nat) (x : Position) (y : Blocks) : Blocks :=
  let p := y.pt i
  match p.drive with
  | .idle | .failed =>
    if p.presented.isAt x then commandDone i y
    else
      grantSlots d (recompute d i
        (modPt i ({ · with drive := .queued, target := some x }) { y with queue := y.queue ++ [i] }))
  | .queued =>
    if p.target = some x then y
    else if p.presented.isAt x then
      judgeArea d (d.ptArea i) (commandDone i { y with queue := y.queue.erase i })
    else modPt i ({ · with target := some x }) y
  | .deadTime | .driving =>
    if p.target = some x then y else reverseDrive d i x y
  | .learning => y

/-- R51: the completion check of a drive in QUEUED, DEAD_TIME or DRIVING, but for grants. -/
def checkComplete (d : Desc) (i : Nat) (y : Blocks) : Blocks :=
  let p := y.pt i
  match p.drive with
  | .queued | .deadTime | .driving =>
    if !p.underTest && p.meets d.tolC p.target then completeDrive d i y else y
  | _ => y

/-! ### Locks -/

/-- R58: the cases in which a lock is also taken as a drive command.  DESIGN CHOICE (log entry 34): the
LOCKS report stands before the command, and so gives the drive state and target from before it. -/
def retarget (d : Desc) (i : Nat) (x : Position) (y : Blocks) : Blocks :=
  let p := y.pt i
  match p.drive with
  | .queued | .deadTime | .driving =>
    if p.target = some x then y else driveCommand d i x y
  | _ => y

/-- R58: route lock; the LOCKS report before the command of `retarget` (log entry 34). -/
def routeLock (d : Desc) (slot i : Nat) (x : Position) (y : Blocks) : Blocks :=
  retarget d i x (pointReport cLocks i
    (modPt i ({ · with routeOwner := some slot, routePos := some x }) y))

/-- R58: flank hold; the LOCKS report before the command of `retarget` (log entry 34). -/
def flankHold (d : Desc) (i : Nat) (x : Position) (y : Blocks) : Blocks :=
  retarget d i x (pointReport cLocks i
    (modPt i (fun p => { p with flankCount := p.flankCount + 1, flankPos := some x }) y))

/-- R58: route unlock. -/
def routeUnlock (i : Nat) (y : Blocks) : Blocks :=
  pointReport cLocks i (modPt i ({ · with routeOwner := none, routePos := none }) y)

/-- R58: flank release; at 0 the flank position becomes none. -/
def flankRelease (i : Nat) (y : Blocks) : Blocks :=
  pointReport cLocks i
    (modPt i (fun p => { p with
      flankCount := p.flankCount - 1
      flankPos := if p.flankCount - 1 = 0 then none else p.flankPos }) y)

/-- R55: withdraw instruction. -/
def withdrawInstruction (d : Desc) (i : Nat) (y : Blocks) : Blocks :=
  let p := y.pt i
  if p.drive = .queued ∧ p.routeOwner = none ∧ p.flankCount = 0 then withdrawDrive d i y else y

/-! ### Field events -/

/-- R45: the pair of levels that follows (A, B) in the order toward reverse. -/
def nextPhase (a b : Bool) : Bool × Bool :=
  match a, b with
  | false, false => (true, false)
  | true, false => (true, true)
  | true, true => (false, true)
  | false, true => (false, false)

/-- R45, R62: one step of the stroke count, and of the learning count once granted. -/
def PointState.stepCount (p : PointState) (up : Bool) : PointState :=
  let learning := p.drive == .learning && granted p
  if up then
    { p with count := min (p.count + 1) (p.strokeRef + 30)
             learnCount := if learning then min (p.learnCount + 1) 230 else p.learnCount }
  else
    { p with count := p.count - 1
             learnCount := if learning then p.learnCount - 1 else p.learnCount }

/-- The difference of two counts. -/
def countGap (a b : Nat) : Nat := (a - b) + (b - a)

/-- R57: in IDLE, QUEUED and FAILED the count has left the window of the reference count with
the excursion mark clear: a new excursion. -/
def unbidden (d : Desc) (i : Nat) (y : Blocks) : Bool :=
  let p := y.pt i
  match p.drive with
  | .idle | .queued | .failed => decide (d.tolC < countGap p.count p.refCount) && !p.excursion
  | _ => false

/-- R57: the excursion mark, and the alarm of a new excursion. -/
def watchUnbidden (d : Desc) (i : Nat) (y : Blocks) : Blocks :=
  let p := y.pt i
  if unbidden d i y then
    alarm 7 (b1 i ++ b1 p.refCount ++ b1 p.count) (modPt i ({ · with excursion := true }) y)
  else
    match p.drive with
    | .idle | .queued | .failed =>
      if d.tolC < countGap p.count p.refCount then y
      else modPt i ({ · with excursion := false }) y
    | _ => y

/-- R45, R57: a new count: the alarm of an excursion stands before the POINT report of the
event (R64), the detection change is handed on, and then the unbidden move (log entry 11). -/
def takeCount (d : Desc) (i : Nat) (y : Blocks) : Blocks :=
  let z := recompute d i (watchUnbidden d i y)
  if unbidden d i y then trouble d i (.unbiddenMove i) z else z

/-- R46: a phase fault.  It is a phase report too, so completion is checked (R51); its alarm stands
before those of the recomputation (log entry 11). -/
def phaseFault (d : Desc) (i : Nat) (y : Blocks) : Blocks :=
  let y := alarm 5 (b1 i) (modPt i ({ · with latch := true }) y)
  if (y.pt i).drive = .learning then grantSlots d (failLearning d i .phaseFault y)
  else grantSlots d (checkComplete d i (recompute d i y))

/-- R45: a phase report taken by point i.  DESIGN CHOICE (log entry 32): one with equal levels has no
effect (R45), so no completion check follows it, though R51 has that check at each phase report. -/
def takePhase (d : Desc) (i : Nat) (a b : Bool) (y : Blocks) : Blocks :=
  let p := y.pt i
  let y := modPt i ({ · with phaseA := a, phaseB := b }) y
  if a = p.phaseA ∧ b = p.phaseB then y
  else if a ≠ p.phaseA ∧ b ≠ p.phaseB then phaseFault d i y
  else
    let y := modPt i (·.stepCount (nextPhase p.phaseA p.phaseB == (a, b))) y
    grantSlots d (checkComplete d i (takeCount d i y))

/-- R62: what a contact make does to a learning: `n`, `r` say which contact has just made. -/
def learnContact (d : Desc) (i : Nat) (n r : Bool) (y : Blocks) : Blocks :=
  let p := y.pt i
  match p.drive, p.phase with
  | .learning, some .outward =>
    if r then
      let y := setOutput d i none y
      modPt i (fun p => { p with measured := some p.learnCount, restTimer := some d.tDead,
                                 restDir := .reverse, settleTimer := some 3,
                                 phase := some .settle }) y
    else y
  | .learning, some .back =>
    if n then
      let y := setOutput d i none y
      let y := modPt i ({ · with restTimer := some d.tDead, restDir := .normal }) y
      grantSlots d (judgeLearning d i y)
    else y
  | _, _ => y

/-- R47, R51, R62: a contact report taken by point i. -/
def takeContacts (d : Desc) (i : Nat) (n r : Bool) (y : Blocks) : Blocks :=
  let p := y.pt i
  let y := modPt i ({ · with normalMade := n, reverseMade := r }) y
  let y := recompute d i y
  if p.drive = .learning then learnContact d i (n && !p.normalMade) (r && !p.reverseMade) y
  else grantSlots d (checkComplete d i y)

/-- R54: an occupation withdraws the drive of point i that has not started moving it, but for
the grant of a freed slot. -/
def occupyPoint (d : Desc) (i : Nat) (y : Blocks) : Blocks :=
  let p := y.pt i
  match p.drive, p.phase with
  | .queued, _ | .deadTime, _ | .learning, some .waiting => withdrawDrive d i y
  | _, _ => y

/-- R54: the in-use points of section s. -/
def Desc.secPts (d : Desc) (s : Nat) : List Nat := d.pts.filter fun i => d.ptSec i == s

/-- R33, R54: the point controller takes a change of section s.  Every point of the section
meets the drive state in which the change finds it; a slot freed by one of them is granted when
all have taken the change, so it goes to no point that the change withdraws (log entry 11). -/
def pointsTakeChange (d : Desc) (s : Nat) (old new : Occupancy) (y : Blocks) : Blocks :=
  if d.secKind s = kindPoint ∧ old = .clear ∧ new ≠ .clear then
    let frees := (d.secPts s).any fun i => (y.pt i).drive == .deadTime
    let y := (d.secPts s).foldl (fun y i => occupyPoint d i y) y
    if frees then grantSlots d y else y
  else y

/-! ### Timer expiries -/

/-- R52: drive timeout. -/
def strokeExpiry (d : Desc) (i : Nat) (y : Blocks) : Blocks :=
  let p := y.pt i
  if p.drive = .driving ∧ p.strokeTimer.isSome = true then
    let y := outputOff d i y
    let y := leaveDrive i y
    let y := settleDrive i .failed y
    let y := alarm 4 (b1 i ++ o1 (p.target.map Position.code) ++ b1 p.count) y
    let y := recompute d i y
    grantSlots d (driveEnding d i .failed false y)
  else y

/-- R62: RETURN starts when the settle timer has expired and the rest timer has stopped. -/
def startReturn (d : Desc) (i : Nat) (y : Blocks) : Blocks :=
  let p := y.pt i
  if p.drive = .learning ∧ p.phase = some .settle ∧ p.settleTimer = none ∧ p.restTimer = none then
    modPt i ({ · with phase := some .back }) (setOutput d i (some .normal) y)
  else y

/-- R53, R62: the rest timer expires.  DESIGN CHOICE (log entry 29): in QUEUED it only stops the
timer, as R53 says, though R51 names QUEUED among the drives checked for completion at each expiry
of the rest timer. -/
def restExpiry (d : Desc) (i : Nat) (y : Blocks) : Blocks :=
  let p := y.pt i
  if p.restTimer.isSome then
    let y := modPt i ({ · with restTimer := none }) y
    match p.drive, p.phase with
    | .deadTime, _ =>
      if p.meets d.tolC p.target then grantSlots d (completeDrive d i y)
      else
        let y := modPt i ({ · with drive := .driving, strokeTimer := some d.tStroke }) y
        recompute d i (setOutput d i p.target y)
    | .learning, some .outward => setOutput d i (some .reverse) y
    | .learning, some .settle => startReturn d i y
    | _, _ => y
  else y

/-- R62: the settle timer expires. -/
def settleExpiry (d : Desc) (i : Nat) (y : Blocks) : Blocks :=
  if (y.pt i).settleTimer.isSome then
    startReturn d i (modPt i ({ · with settleTimer := none }) y)
  else y

/-- R63: the learning timer expires. -/
def learnExpiry (d : Desc) (i : Nat) (y : Blocks) : Blocks :=
  let p := y.pt i
  if p.drive = .learning ∧ p.learnTimer.isSome = true then
    grantSlots d (failLearning d i .timer y)
  else y

end Sys2Proof.Machine
end

