-- ==== Sys2Proof/Machine/Release.lean ====
section
/-! DEFINITION. Release (chapter 6): sequential release and release faults (R112, R113), the
road notices (R114), the freeing of an instance (R115) and the release of a whole instance
(R116). -/

namespace Sys2Proof.Machine

/-- R112 steps 1 to 3 for section s at list index i: unlock, route unlocks, flank releases.  DESIGN
CHOICE (log entry 33): the points of one step are taken in the order of the definition's lists. -/
def releaseLocks (d : Desc) (v : RouteInst) (i s : Nat) (y : Blocks) : Blocks :=
  let y := unlockSection s y
  let y := ((heldPoints d v).filter fun (p, _) => d.ptSec p == s).foldl
    (fun y (p, _) => routeUnlock p y) y
  ((heldFlanks d v).filter fun (_, _, w) => w == i).foldl (fun y (p, _, _) => flankRelease p y) y

/-- The points that `releaseLocks` unlocks, in its order.  DESIGN CHOICE (log entry 33): in that order,
section by section, they take the withdraw instructions of R116 step 3. -/
def releasedPoints (d : Desc) (v : RouteInst) (i s : Nat) : List Nat :=
  (((heldPoints d v).filter fun (p, _) => d.ptSec p == s).map (·.1)) ++
    (((heldFlanks d v).filter fun (_, _, w) => w == i).map (·.1))

/-- The road whose mouth is section s, if the instance has it as origin or destination. -/
def mouthOf (d : Desc) (v : RouteInst) (s : Nat) : Option (Direction × Nat) :=
  match v.origin d, v.dest d with
  | some r, _ => if d.roadMouth r = s then some (.departure, r) else none
  | none, some r => if d.roadMouth r = s then some (.arrival, r) else none
  | none, none => none

/-- R103: the road an instance still holds: its mouth is unreleased. -/
def heldRoad (d : Desc) (v : RouteInst) : Option (Direction × Nat) :=
  v.unreleased.findSome? (mouthOf d v)

/-- R115, R116: the ROUTE report RELEASED and its manner. -/
def releasedReport (slot : Nat) (v : RouteInst) (m : Manner) (y : Blocks) : Blocks :=
  post .route (instCommon cReleased slot v ++ b1 m.code) y

/-- R115, R116: the notice to the programme sequencer, for a movement number. -/
def noticeEnded (d : Desc) (v : RouteInst) (m : Manner) (y : Blocks) : Blocks :=
  match v.movement with
  | some n => endedNotice d n m y
  | none => y

/-- R115: the instance is freed by the release of its last section. -/
def freeSequential (d : Desc) (slot : Nat) (v : RouteInst) (y : Blocks) : Blocks :=
  let y := disownSignal d (v.entrance d) y
  let y := setInst slot none y
  let y := releasedReport slot v .sequential y
  let y := releaseEvent d y
  noticeEnded d v .sequential y

/-- R112: the release of the lowest unreleased section s. -/
def releaseLowest (d : Desc) (slot : Nat) (v : RouteInst) (s : Nat) (y : Blocks) : Blocks :=
  let y := releaseLocks d v v.releaseIndex s y
  let w := { v with unreleased := v.unreleased.drop 1, releaseIndex := v.releaseIndex + 1 }
  let y := setInst slot (some w) y
  let y := match mouthOf d v s with
    | some (dir, r) => mouthPassed d dir r y
    | none => y
  let y := releaseEvent d y
  let y := judgeArea d (d.secArea s) y
  if w.unreleased = [] then freeSequential d slot w y else y

/-- R112: the requirement beyond the was-occupied mark. -/
def nextRequirement (d : Desc) (y : Blocks) (v : RouteInst) : Bool :=
  match v.unreleased with
  | _ :: n :: _ => y.secBusy n
  | _ =>
    match v.dest d with
    | some r =>
      match (d.roadCells r).getLast? with
      | some c => y.secBusy c
      | none => false
    | none => true

/-- R112, R113: the fault of a section of an ENTERED instance that clears with its
release-fault mark clear, if any: list index and reason (MARK_CLEAR 0, NEXT_CLEAR 1,
OUT_OF_ORDER 2). -/
def clearFault (d : Desc) (y : Blocks) (v : RouteInst) (s : Nat) : Option (Nat × Nat) :=
  if v.unreleased.head? = some s then
    if !(y.sec s).wasOccupied then some (v.releaseIndex, 0)
    else if nextRequirement d y v then none
    else some (v.releaseIndex, 1)
  else some (v.releaseIndex + v.unreleased.idxOf s, 2)

/-- R112, R113: a section of an ENTERED instance clears; a release fault sets its mark. -/
def sectionClears (d : Desc) (slot : Nat) (v : RouteInst) (s : Nat) (y : Blocks) : Blocks :=
  if (y.sec s).releaseFault then y
  else if (clearFault d y v s).isSome then markFault s y
  else releaseLowest d slot v s y

/-- R114, R121: the road notice of a whole release. -/
def wholeNotice (d : Desc) (passed : Bool) (v : RouteInst) (y : Blocks) : Blocks :=
  match heldRoad d v with
  | some (dir, r) => if passed then mouthPassed d dir r y else givenUp d dir r y
  | none => y

/-- R116: the release of a whole instance.  From step 3 on the instance holds no point and no
section (log entry 22).  DESIGN CHOICE (log entry 30): at step 7 the areas of the released sections
are judged in the order of the instance's section list, so that of two PENDING areas that both
become free (R163) the one whose section stands first in the list is granted and reported first. -/
def releaseWhole (d : Desc) (slot : Nat) (v : RouteInst) (m : Manner) (y : Blocks) : Blocks :=
  let passed := (m == .handReleased) && hasBeenEntered y v
  let secs := v.unreleased.zipIdx v.releaseIndex
  let y := secs.foldl (fun y (s, i) => releaseLocks d v i s y) y
  let y := setInst slot (some { v with timer := none, unreleased := [],
                                       releaseIndex := v.releaseIndex + v.unreleased.length }) y
  let y := (secs.flatMap fun (s, i) => releasedPoints d v i s).foldl
    (fun y p => withdrawInstruction d p y) y
  let y := disownSignal d (v.entrance d) y
  let y := wholeNotice d passed v y
  let y := setInst slot none y
  let y := releasedReport slot v m y
  let y := v.unreleased.foldl (fun y _ => releaseEvent d y) y
  let y := releaseEvent d y
  let y := v.unreleased.foldl (fun y s => judgeArea d (d.secArea s) y) y
  noticeEnded d v m y

/-! ### Section changes -/

/-- R108, R118: ENTRY_AT_STOP: slot, section, entrance signal, tram. -/
def alarmEntry (d : Desc) (slot : Nat) (v : RouteInst) (s : Nat) (y : Blocks) : Blocks :=
  alarm 1 (b1 slot ++ b1 s ++ b1 (v.entrance d) ++ o2 v.tram) y

/-- R110, R111: INTRUSION: slot, section. -/
def alarmIntrusion (slot s : Nat) (y : Blocks) : Blocks := alarm 2 (b1 slot ++ b1 s) y

/-- R113: RELEASE_FAULT: slot, section, list index, release index and reason. -/
def alarmFault (d : Desc) (slot : Nat) (v : RouteInst) (s : Nat) (y : Blocks) : Blocks :=
  match (y.sec s).releaseFault, clearFault d y v s with
  | false, some (idx, reason) =>
    alarm 3 (b1 slot ++ b1 s ++ b1 idx ++ b1 v.releaseIndex ++ b1 reason) y
  | _, _ => y

/-- R108, R110, R111, R113, R118: the alarm that a change of section s raises at its instance. -/
def changeAlarm (d : Desc) (slot : Nat) (v : RouteInst) (s : Nat) (new : Occupancy) (y : Blocks) :
    Blocks :=
  let enters := (v.unreleased.head? == some s) && (new == .occupied)
  match v.state with
  | .setting => if enters then alarmEntry d slot v s y else y
  | .stalled => if enters && !hasBeenEntered y v then alarmEntry d slot v s y else y
  | .opened => if new = .clear || enters then y else alarmIntrusion slot s y
  | .entered => if new = .clear then alarmFault d slot v s y else y
  | .cancelling =>
    if enters then alarmEntry d slot v s y
    else if new = .clear || v.unreleased.head? == some s then y
    else alarmIntrusion slot s y
  | .handReleasing => y

/-- R108: an entry at stop in SETTING or STALLED, its alarm raised. -/
def entryAtStop (d : Desc) (slot : Nat) (v : RouteInst) (s : Nat) (y : Blocks) : Blocks :=
  changeInst d slot v { v with state := .stalled, stallCause := some (.entryAtStop s) } y

/-- R108 to R111, R118: an instance takes a change of one of its sections, its alarm raised. -/
def takeSectionChange (d : Desc) (slot : Nat) (v : RouteInst) (s : Nat) (new : Occupancy)
    (y : Blocks) : Blocks :=
  let first := v.unreleased.head? == some s
  match v.state with
  | .setting =>
    if first && (new == .occupied) then entryAtStop d slot v s y else judgeOpen d slot y
  | .stalled =>
    if first && (new == .occupied) && !hasBeenEntered y v then entryAtStop d slot v s y else y
  | .opened =>
    if new = .clear then y
    else if first && (new == .occupied) then
      changeInst d slot v { v with state := .entered }
        (markOccupied s (setAspect d .stop (v.entrance d) y))
    else stall d slot v (.intrusion s) y
  | .entered =>
    match new with
    | .occupied => markOccupied s y
    | .disturbed => y
    | .clear => sectionClears d slot v s y
  | .cancelling =>
    if first && (new == .occupied) then
      changeInst d slot v { v with state := .entered, timer := none } (markOccupied s y)
    else y
  | .handReleasing => y

/-- R33: the live instance to which a section is locked. -/
def holderOf (y : Blocks) (s : Nat) : Option (Nat × RouteInst) :=
  (y.sec s).owner.bind fun slot => (y.inst slot).map fun v => (slot, v)

/-- R122: the alarm of a section change, ahead of every report of the change. -/
def instsAlarm (d : Desc) (s : Nat) (new : Occupancy) (y : Blocks) : Blocks :=
  match holderOf y s with
  | none => y
  | some (slot, v) => changeAlarm d slot v s new y

/-- R33: the route instance table takes a change of a section locked to an instance. -/
def instsTakeChange (d : Desc) (s : Nat) (new : Occupancy) (y : Blocks) : Blocks :=
  match holderOf y s with
  | none => y
  | some (slot, v) => takeSectionChange d slot v s new y

/-! ### Desk requests on instances, in RUNNING (R117 to R121) -/

/-- R40: the live instance that owns a signal. -/
def ownerOf (y : Blocks) (g : Nat) : Option (Nat × RouteInst) :=
  (y.sig g).owner.bind fun slot => (y.inst slot).map fun v => (slot, v)

/-- R117: is the cancel released at once?  An instance whose approach-locked flag is clear is;
any other only with its approach section defined and CLEAR. -/
def cancelAtOnce (d : Desc) (y : Blocks) (v : RouteInst) : Bool :=
  (v.state != .opened && !v.approachLocked) ||
    match (d.route v.definition).approach with
    | some a => (y.sec a).occ == .clear
    | none => false

/-- R118: into CANCELLING. -/
def enterCancelling (d : Desc) (slot : Nat) (v : RouteInst) (y : Blocks) : Blocks :=
  let y := if v.state = .opened then setAspect d .stop (v.entrance d) y else y
  changeInst d slot v { v with state := .cancelling, timer := some d.tApproach } y

/-- R117: the cancel of an instance: its effect and the result code. -/
def cancelInst (d : Desc) (slot : Nat) (v : RouteInst) (y : Blocks) : Nat × Blocks :=
  let go : Nat × Blocks :=
    if cancelAtOnce d y v then (rDone, releaseWhole d slot v .cancelled y)
    else (rDone, enterCancelling d slot v y)
  match v.state with
  | .setting | .opened => go
  | .stalled => if hasBeenEntered y v then (rAlreadyEntered, y) else go
  | .entered | .cancelling => (rAlreadyEntered, y)
  | .handReleasing => (rInUse, y)

/-- R119: the points to be commanded, in the order of R93. -/
def retryPoints (d : Desc) (slot : Nat) (y : Blocks) (v : RouteInst) : List (Nat × Position) :=
  ((heldPoints d v).filter fun (p, x) => !(y.pt p).presented.isAt x) ++
    ((heldFlanks d v).filter fun (p, x, _) =>
      ((y.pt p).routeOwner.isNone || (y.pt p).routeOwner == some slot) &&
        !(y.pt p).presented.isAt x).map fun (p, x, _) => (p, x)

/-- R119: the retry of an instance: its effect and the result code. -/
def retryInst (d : Desc) (slot : Nat) (v : RouteInst) (y : Blocks) : Nat × Blocks :=
  if v.state ≠ .stalled then (rNotFound, y)
  else if hasBeenEntered y v then (rAlreadyEntered, y)
  else
    let ps := retryPoints d slot y v
    if ps.any fun (p, _) => y.secBusy (d.ptSec p) then (rOccupied, y)
    else
      let y := ps.foldl (fun y (p, x) => driveCommand d p x y) y
      let y := changeInst d slot v { v with state := .setting, stallCause := none } y
      (rDone, judgeOpen d slot y)

/-- R120: the hand release of an instance: its effect and the result code. -/
def handReleaseInst (d : Desc) (slot : Nat) (v : RouteInst) (y : Blocks) : Nat × Blocks :=
  match v.state with
  | .entered | .stalled =>
    (rDone, changeInst d slot v { v with state := .handReleasing, timer := some d.tApproach } y)
  | _ => (rInUse, y)

/-- R118: the timer of a CANCELLING instance expires. -/
def approachExpiry (d : Desc) (slot : Nat) (y : Blocks) : Blocks :=
  match y.inst slot with
  | some v =>
    if v.state = .cancelling ∧ v.timer.isSome = true then releaseWhole d slot v .cancelled y else y
  | none => y

/-- R121: the timer of a HAND_RELEASING instance expires. -/
def handReleaseExpiry (d : Desc) (slot : Nat) (y : Blocks) : Blocks :=
  match y.inst slot with
  | some v =>
    if v.state = .handReleasing ∧ v.timer.isSome = true then releaseWhole d slot v .handReleased y
    else y
  | none => y

end Sys2Proof.Machine
end

