-- ==== Sys2Proof/Machine/TestSched.lean ====
section
/-! DEFINITION. The test scheduler (chapter 4): steps, cycles, the proving step and the mode
changes it makes (R66 to R79). -/

namespace Sys2Proof.Machine

/-- R67: the interval of RUNNING. -/
def runningInterval (d : Desc) (g : Nat) : Nat := d.tCycle / g

/-- R68: a point is tested in a step of this kind. -/
def chosen (y : Blocks) (k : StepKind) (i : Nat) : Bool :=
  let p := y.pt i
  let covered := match k with
    | .cycle => (i % y.tst.g == y.tst.pointer) && !p.tested
    | _ => true
  covered && match p.drive with
    | .idle | .failed | .queued => true
    | _ => false

/-- R68: one point goes under test. -/
def putUnderTest (d : Desc) (i : Nat) (y : Blocks) : Blocks :=
  emit (.testStart (d.ptChannel i)) (modPt i ({ · with underTest := true, outcome := none }) y)

/-- R68: the start of a step. -/
def startStep (d : Desc) (k : StepKind) (y : Blocks) : Blocks :=
  let y := (d.pts.filter (chosen y k)).foldl (fun y i => putUnderTest d i y) y
  { y with tst := { y.tst with step := some 2, kind := k } }

/-- R68, R73: the points under test, in index order. -/
def testedPts (d : Desc) (y : Blocks) : List Nat := d.pts.filter fun i => (y.pt i).underTest

/-- R69, R70: no PASS by the end of the step counts as FAIL. -/
def PointState.failedTest (p : PointState) : Bool := p.outcome != some .pass

/-- R70 step 2: a failed point is latched, which is a recomputation (R47), and its TEST_FAIL is
raised: point, outcome FAIL 0 or NO_OUTCOME 1, presented detection held.  DEDUCED (log entry 26): a
COUNT_MISMATCH of that recomputation stands before TEST_FAIL. -/
def latchFailed (d : Desc) (i : Nat) (y : Blocks) : Blocks :=
  let p := y.pt i
  let y := recompute d i (modPt i ({ · with latch := true }) y)
  alarm 8 (b1 i ++ b1 (if p.outcome = some .fail then 0 else 1) ++ b1 p.presented.code) y

/-- R70 step 3, R79 step 3: the mark is cleared, the presented detection takes the computed value
(R48), and a QUEUED drive is checked for completion.  Clearing the mark changes no input of the
detection, so nothing is recomputed (R47). -/
def clearUnderTest (d : Desc) (i : Nat) (y : Blocks) : Blocks :=
  let y := modPt i ({ · with underTest := false, outcome := none }) y
  checkComplete d i (present d i (y.pt i).computed y)

/-- Every tested mark cleared. -/
def clearTested (y : Blocks) : Blocks := { y with pts := tabMap ({ · with tested := false }) y.pts }

/-- R71, R74: a pending granularity takes effect. -/
def takePending (t : TestState) : TestState := { t with g := t.pendingG.getD t.g, pendingG := none }

/-- R71: the end of a cycle. -/
def cycleEnd (d : Desc) (y : Blocks) : Blocks :=
  let y := clearTested y
  let t := takePending y.tst
  let t := if t.g = y.tst.g then t else { t with interval := some (runningInterval d t.g) }
  { y with tst := t }

/-- R71: the end of a CYCLE step in RUNNING advances the pointer. -/
def advancePointer (d : Desc) (y : Blocks) : Blocks :=
  if y.tst.g ≤ y.tst.pointer + 1 then
    cycleEnd d { y with tst := { y.tst with pointer := 0 } }
  else { y with tst := { y.tst with pointer := y.tst.pointer + 1 } }

/-- R74: the end of the proving step.  DESIGN CHOICE (log entry 28): auto-departures (R149) are
judged before the release event and its offer (R150). -/
def provingEnd (d : Desc) (y : Blocks) : Blocks :=
  let y := changeMode .running y
  let y := clearTested y
  let t := takePending { y.tst with pointer := 0 }
  let y := { y with tst := { t with interval := some (runningInterval d t.g) } }
  releaseEvent d (autoDepart y)

/-- R73: the proving step starts. -/
def startProving (d : Desc) (y : Blocks) : Blocks := startStep d .proving y

/-- R70 step 7: the closing action of a step kind. -/
def closeStep (d : Desc) (k : StepKind) (y : Blocks) : Blocks :=
  match k with
  | .cycle =>
    if y.mode = .running then advancePointer d y
    else clearTested { y with tst := { y.tst with pointer := 0 } }
  | .quiet => clearTested y
  | .proving => provingEnd d y
  | .none => y

/-- R78: at the end of a step in WAKING the mode becomes PROVING and the proving step
starts. -/
def afterStep (d : Desc) (y : Blocks) : Blocks :=
  if y.mode = .waking then startProving d (changeMode .proving y) else y

/-- R70: the end of a step. -/
def endStep (d : Desc) (y : Blocks) : Blocks :=
  let k := y.tst.kind
  let all := testedPts d y
  let failed := all.filter fun i => (y.pt i).failedTest
  let y := all.foldl (fun y i => emit (.testEnd (d.ptChannel i)) y) y
  let y := failed.foldl (fun y i => latchFailed d i y) y
  let y := all.foldl (fun y i => clearUnderTest d i y) y
  let y := failed.foldl (fun y i => trouble d i (.testFail i) y) y
  let y := all.foldl (fun y i => modPt i ({ · with tested := true }) y) y
  let y := grantSlots d y
  let y := { y with tst := { y.tst with kind := .none, step := none } }
  afterStep d (closeStep d k y)

/-- R68, R70: the step timer expires. -/
def stepExpiry (d : Desc) (y : Blocks) : Blocks :=
  if y.tst.step.isSome then endStep d y else y

/-- R67, R68: the interval timer expires.  A step still in progress is left alone (log entry
16): the manual's intervals are longer than a step. -/
def intervalExpiry (d : Desc) (y : Blocks) : Blocks :=
  if y.tst.interval.isSome ∧ y.tst.kind = .none then
    match y.mode with
    | .running =>
      startStep d .cycle
        { y with tst := { y.tst with interval := some (runningInterval d y.tst.g) } }
    | .quiet => startStep d .quiet { y with tst := { y.tst with interval := some d.tQuiet } }
    | _ => y
  else y

/-- R69, R79: an outcome report taken for point i: recorded for a point under test, discarded for
any other and when it was sent for a step that has ended or been abandoned. -/
def takeOutcome (i : Nat) (r : TestReport) (y : Blocks) : Blocks :=
  match r.step with
  | .past => y
  | .current => if (y.pt i).underTest then modPt i ({ · with outcome := some r.outcome }) y else y

/-- R18, R75: no live instance, empty waiting list, no busy point, no entry DISPATCHED or
RUNNING. -/
def yardIdle (d : Desc) (y : Blocks) : Bool :=
  (slots24.all fun i => (y.inst i).isNone) && y.wait.isEmpty &&
    (d.pts.all fun i => !(y.pt i).busy) &&
    y.prog.entries.all fun e => e.state != .dispatched && e.state != .running

/-- R75 steps 2 to 5: the RUNNING cycle ends; with no step in progress every tested mark is
cleared at once. -/
def enterQuietTests (d : Desc) (y : Blocks) : Blocks :=
  let t := { y.tst with pointer := 0, interval := some d.tQuiet }
  if t.kind = .none then clearTested { y with tst := t } else { y with tst := t }

/-- R75: ENTER QUIET is accepted. -/
def enterQuietNow (d : Desc) (y : Blocks) : Blocks := enterQuietTests d (changeMode .quiet y)

/-- R79: the step in progress is abandoned. -/
def abandonStep (d : Desc) (y : Blocks) : Blocks :=
  let all := testedPts d y
  let y := { y with tst := { y.tst with step := none } }
  let y := all.foldl (fun y i => emit (.testEnd (d.ptChannel i)) y) y
  let y := all.foldl (fun y i => clearUnderTest d i y) y
  let y := grantSlots d y
  { y with tst := { y.tst with kind := .none } }

/-- R77 step 1: the interval timer stops. -/
def stopInterval (y : Blocks) : Blocks := { y with tst := { y.tst with interval := none } }

/-- R77, R78, R79: WAKE is taken in QUIET. -/
def wakeNow (d : Desc) (y : Blocks) : Blocks :=
  if y.tst.kind = .none then startProving d (changeMode .proving (stopInterval y))
  else if d.wakeAbort then startProving d (changeMode .proving (abandonStep d (stopInterval y)))
  else changeMode .waking (stopInterval y)

end Sys2Proof.Machine
end

