-- ==== Sys2Proof/Machine/Monitor.lean ====
section
/-! DEFINITION. The section monitor's events (R26 to R33): occupancy, clear timers, health,
the hand-on of section changes, and the start-up settlement. -/

namespace Sys2Proof.Machine

/-- R33: a change of occupancy is reported, then taken by the route instance table, the point
controller and the road stack unit, in the rule's order (log entry 11).  R122: an alarm of the
change stands before its SECTION report. -/
def handOn (d : Desc) (i : Nat) (old new : Occupancy) (y : Blocks) : Blocks :=
  let y := instsAlarm d i new y
  let y := sectionReport cSecOccupancy i old y
  let y := instsTakeChange d i new y
  let y := pointsTakeChange d i old new y
  roadTakesChange d i y

/-- R33: the occupancy of section i takes a value, its clear timer another. -/
def changeOcc (d : Desc) (i : Nat) (new : Occupancy) (t : Timer) (y : Blocks) : Blocks :=
  let old := (y.sec i).occ
  handOn d i old new (setSec i { y.sec i with occ := new, timer := t } y)

/-- R28: input occupied. -/
def occupyInput (d : Desc) (i : Nat) (y : Blocks) : Blocks :=
  match (y.sec i).occ with
  | .clear => changeOcc d i .occupied (y.sec i).timer y
  | .occupied => setSec i { y.sec i with timer := none } y
  | .disturbed => y

/-- R29: input clear. -/
def clearInput (d : Desc) (i : Nat) (y : Blocks) : Blocks :=
  match (y.sec i).occ, (y.sec i).timer with
  | .occupied, none => setSec i { y.sec i with timer := some d.tClear } y
  | _, _ => y

/-- R28, R29: a level taken. -/
def takeLevel (d : Desc) (i : Nat) (v : Level) (y : Blocks) : Blocks :=
  let y := setSec i { y.sec i with level := v } y
  match v with
  | .occupied => occupyInput d i y
  | .clear => clearInput d i y

/-- R31: health fault. -/
def takeFault (d : Desc) (i : Nat) (y : Blocks) : Blocks :=
  let y := setSec i { y.sec i with healthy := false } y
  if (y.sec i).occ = .disturbed then y else changeOcc d i .disturbed none y

/-- R32: health return with a level. -/
def takeReturn (d : Desc) (i : Nat) (v : Level) (y : Blocks) : Blocks :=
  let y := setSec i { y.sec i with healthy := true, level := v } y
  if (y.sec i).occ = .disturbed then
    changeOcc d i .occupied (if v = .clear then some d.tClear else none) y
  else takeLevel d i v y

/-- R30: the clear timer expires. -/
def clearExpiry (d : Desc) (i : Nat) (y : Blocks) : Blocks :=
  if (y.sec i).timer.isSome then changeOcc d i .clear none y else y

/-- R26: no in-use section has its clear timer running. -/
def settledNow (d : Desc) (y : Blocks) : Bool := d.secs.all fun i => (y.sec i).timer.isNone

/-- R26, R73: the first settlement after a load starts the proving step. -/
def judgeSettled (d : Desc) (y : Blocks) : Blocks :=
  if y.settleWatch ∧ settledNow d y = true then
    startProving d { y with settleWatch := false }
  else y

/-- R27: an event of input n, while a description is in force, is taken by the in-use section
that names the input. -/
def inputEvent (d : Desc) (n : Nat) (op : Nat → Blocks → Blocks) (y : Blocks) : Blocks :=
  if d.inForce then
    match d.secOfInput n with
    | some i => judgeSettled d (op i y)
    | none => y
  else y

/-- R5: an event of point channel n, while a description is in force, is taken by the in-use
point that names the channel. -/
def channelEvent (d : Desc) (n : Nat) (op : Nat → Blocks → Blocks) (y : Blocks) : Blocks :=
  if d.inForce then
    match d.ptOfChannel n with
    | some i => op i y
    | none => y
  else y

end Sys2Proof.Machine
end

