-- ==== Sys2Proof/Machine/Walk.lean ====
section
/-! DEFINITION. The route walker (chapter 5): the walk checks (R84 to R89), the classes of
failure (R90), stop-short (R91), the claim (R92 to R95), results (R96), the waiting list
(R97 to R99) and the rotation (R83). -/

namespace Sys2Proof.Machine

/-- A check's failure with its place for R91. -/
abbrev Fail := Failure × Option Nat

/-- R91: the part of a definition that a walk is made for. -/
structure Scope where
  sections : List Nat
  points : List (Nat × Position)
  flanks : List (Nat × Position × Nat)
  origin : Option Nat
  dest : Option Nat
  deriving DecidableEq, Repr

/-- R91: the list index of a section in the definition. -/
def placeOf (rt : RouteDef) (s : Nat) : Nat := rt.sections.idxOf s

/-- R91: the whole definition, or the one shortened at section index k. -/
def scopeOf (d : Desc) (rt : RouteDef) : Option Nat → Scope
  | none => ⟨rt.sections, rt.points, rt.flanks, rt.origin, rt.dest⟩
  | some k =>
    ⟨rt.sections.take (k + 1),
     rt.points.filter fun (p, _) => decide (placeOf rt (d.ptSec p) ≤ k),
     rt.flanks.filter fun (_, _, w) => decide (w ≤ k),
     rt.origin, none⟩

/-! ### The checks -/

/-- R84: the link whose areas and role count. -/
def plannerLink (y : Blocks) : Option LinkId :=
  links3.find? fun l => (y.link l).role == some .planner

def permitLink (y : Blocks) (q : WalkRequest) : Option LinkId :=
  match q.requester with
  | .link l => some l
  | .programme => plannerLink y

/-- R84 check 2. -/
def roleAgrees (y : Blocks) (q : WalkRequest) : Bool :=
  match q.origin, q.requester with
  | .setRoute, .link l => (y.link l).role == some .desk
  | .call, .link l => (y.link l).role == some .calls
  | .programme, _ => (plannerLink y).isSome
  | _, .programme => false

/-- R84 check 4: the permitted area set. -/
def permittedAreas (y : Blocks) (q : WalkRequest) : Byte :=
  match permitLink y q with
  | some l => (y.link l).areas
  | none => 0

/-- R84 checks 2 to 4. -/
def checkRequest (d : Desc) (y : Blocks) (q : WalkRequest) : Option Failure :=
  if !(roleAgrees y q) then some .notPermitted
  else if !(d.rtLoaded q.definition) then some .notFound
  else
    ((d.route q.definition).sections.find? fun s =>
      !(hasBit (permittedAreas y q) (d.secArea s))).map .areaNotPermitted

/-- R85 check 5, for one section. -/
def checkOneSection (d : Desc) (y : Blocks) (q : WalkRequest) (s : Nat) : Option Failure :=
  let a := y.area (d.secArea s)
  if a.status = .pending ∨ (a.status = .possessed ∧ (a.key ≠ q.key ∨ q.key = 0)) then
    some (.possession s (d.secArea s))
  else if (y.sec s).owner.isSome then some (.conflict .sect s .locked)
  else if y.secBusy s then some (.conflict .sect s .occupied)
  else none

def check5 (d : Desc) (y : Blocks) (q : WalkRequest) (sc : Scope) : Option Fail :=
  sc.sections.zipIdx.findSome? fun (s, i) => (checkOneSection d y q s).map fun f => (f, some i)

/-- R86 check 6. -/
def check6 (y : Blocks) (rt : RouteDef) : Option Fail :=
  if (y.sig rt.entrance).owner.isSome then
    some (.conflict .signal rt.entrance .locked, none) else none

/-- R86 check 7, for one required point. -/
def checkOnePoint (y : Blocks) (p : Nat) (x : Position) : Option Failure :=
  let v := y.pt p
  if v.drive = .learning then some (.conflict .point p .learning)
  else if v.blocked then some (.pointBlocked p)
  else if v.routeOwner.isSome then some (.conflict .point p .locked)
  else if 0 < v.flankCount ∧ v.flankPos ≠ some x then some (.conflict .point p .flank)
  else none

def check7 (d : Desc) (y : Blocks) (rt : RouteDef) (sc : Scope) : Option Fail :=
  sc.points.findSome? fun (p, x) =>
    (checkOnePoint y p x).map fun f => (f, some (placeOf rt (d.ptSec p)))

/-- R87 check 8, for one flank point. -/
def checkOneFlank (d : Desc) (y : Blocks) (p : Nat) (x : Position) : Option Failure :=
  let v := y.pt p
  if v.blocked && !v.presented.isAt x then some (.pointBlocked p)
  else if v.routeOwner.isSome ∧ v.routePos ≠ some x then some (.conflict .point p .flank)
  else if 0 < v.flankCount ∧ v.flankPos ≠ some x then some (.conflict .point p .flank)
  else if y.secBusy (d.ptSec p) && !v.presented.isAt x then some (.conflict .point p .occupied)
  else none

def check8 (d : Desc) (y : Blocks) (sc : Scope) : Option Fail :=
  sc.flanks.findSome? fun (p, x, w) => (checkOneFlank d y p x).map fun f => (f, some w)

/-- R88 check 9. -/
def checkOrigin (y : Blocks) (q : WalkRequest) (r : Nat) : Option Failure :=
  let v := y.road r
  if v.status ≠ .idle then some (.roadNotReady r)
  else if v.stack.isEmpty then some .notFound
  else if q.tram = 0 ∨ v.topTram = q.tram then none
  else if v.stack.any fun t => t.tram == q.tram then some .blockedIn
  else some .notFound

def check9 (y : Blocks) (q : WalkRequest) (sc : Scope) : Option Fail :=
  sc.origin.bind fun r => (checkOrigin y q r).map fun f => (f, some 0)

/-- R88 check 10. -/
def checkDest (d : Desc) (y : Blocks) (q : WalkRequest) (r : Nat) : Option Failure :=
  if (y.road r).status ≠ .idle then some (.roadNotReady r)
  else
    match (if q.tram = 0 then none else roadOfTram d y q.tram) with
    | some other => some (.duplicate other)
    | none => if fits d y r (tramLength d y q.tram) then none else some (.noFit r)

def check10 (d : Desc) (y : Blocks) (q : WalkRequest) (rt : RouteDef) (sc : Scope) :
    Option Fail :=
  sc.dest.bind fun r =>
    (checkDest d y q r).map fun f => (f, some (rt.sections.length - 1))

/-- R92: the lowest free slot. -/
def freeSlotIndex (y : Blocks) : Option Nat := slots24.find? fun i => (y.inst i).isNone

/-- R89 check 11. -/
def check11 (y : Blocks) : Option Fail :=
  if (freeSlotIndex y).isNone then some (.listFull, none) else none

/-- Checks 5 to 11, the first that fails. -/
def checkScope (d : Desc) (y : Blocks) (q : WalkRequest) (rt : RouteDef) (sc : Scope) :
    Option Fail :=
  [check5 d y q sc, check6 y rt, check7 d y rt sc, check8 d y sc, check9 y q sc,
   check10 d y q rt sc, check11 y].findSome? id

/-- R90. -/
def transient (o : Origin) (f : Failure) : Bool :=
  match f, o with
  | .conflict _ _ _, _ | .possession _ _, _ | .roadNotReady _, _ | .listFull, _ => true
  | .blockedIn, .programme => true
  | _, _ => false

/-- R91: the intermediate signal with the largest index below place p. -/
def bestInter (rt : RouteDef) (p : Nat) : Option (Nat × Nat) :=
  (rt.inters.filter fun (_, k) => decide (k < p)).foldl
    (fun best c => match best with
      | none => some c
      | some b => if b.2 < c.2 then some c else some b) none

/-- The verdict of a walk: passed, whole or shortened to a stop signal at a section index; or
the failure. -/
inductive Verdict where
  | pass (short : Option (Nat × Nat))
  | fail (f : Failure)
  deriving DecidableEq, Repr

/-- R91: checks 5 to 11 on the whole route, then on shorter ones, at most `fuel` of them. -/
def tryScopes (d : Desc) (y : Blocks) (q : WalkRequest) (rt : RouteDef) :
    Nat → Option (Nat × Nat) → Verdict
  | fuel, short =>
    match checkScope d y q rt (scopeOf d rt (short.map (·.2))) with
    | none => .pass short
    | some (f, place) =>
      match fuel with
      | 0 => .fail f
      | n + 1 =>
        if q.stopShort && transient q.origin f then
          match place.bind (bestInter rt) with
          | some b => tryScopes d y q rt n (some b)
          | none => .fail f
        else .fail f

/-- R84 to R91: the walk's verdict, in RUNNING. -/
def walkVerdict (d : Desc) (y : Blocks) (q : WalkRequest) : Verdict :=
  match checkRequest d y q with
  | some f => .fail f
  | none => tryScopes d y q (d.route q.definition) 3 none

/-! ### The claim -/

/-- R92: the new record. -/
def newInst (q : WalkRequest) (l : LinkId) (short : Option (Nat × Nat)) (sc : Scope) : RouteInst where
  definition := q.definition
  link := l
  tram := if q.tram = 0 then none else some q.tram
  key := if q.key = 0 then none else some q.key
  shortenedAt := short.map (·.1)
  state := .setting
  approachLocked := false
  unreleased := sc.sections
  releaseIndex := 0
  timer := none
  movement := q.movement
  stallCause := none

/-- R93 item 1. -/
def claimPoint (d : Desc) (slot : Nat) (y : Blocks) (c : Nat × Position) : Blocks :=
  let y := routeLock d slot c.1 c.2 y
  if (y.pt c.1).presented.isAt c.2 then y else driveCommand d c.1 c.2 y

/-- R93 item 2. -/
def claimFlank (d : Desc) (y : Blocks) (c : Nat × Position × Nat) : Blocks :=
  let y := flankHold d c.1 c.2.1 y
  if (y.pt c.1).routeOwner.isSome || (y.pt c.1).presented.isAt c.2.1 then y
  else driveCommand d c.1 c.2.1 y

/-- R92 to R95: the claim.  `cause` and `extra` are those of the ROUTE report: CLAIMED or
SHORTENED to the subscribers (R94), FROM_STORE to the requester link too (R99).  The new
instance takes events from its hand-over on (log entry 13).  DESIGN CHOICE (log entry 31): the
report's tram is that of the new record, which for a request with tram 0 is absent, 65535. -/
def claim (d : Desc) (q : WalkRequest) (l : LinkId) (short : Option (Nat × Nat)) (slot cause : Nat)
    (extra : Option LinkId) (y : Blocks) : Blocks :=
  let rt := d.route q.definition
  let sc := scopeOf d rt (short.map (·.2))
  let v := newInst q l short sc
  let y := sc.sections.foldl (fun y s => lockSection slot s y) y
  let y := ownSignal slot rt.entrance y
  let y := sc.points.foldl (claimPoint d slot) y
  let y := sc.flanks.foldl (claimFlank d) y
  let y := match sc.origin with
    | some r => reserveOrigin d r y
    | none => y
  let y := match sc.dest with
    | some r => reserveDest d r q.tram y
    | none => y
  let y := postAlso .route extra (instCommon cause slot v ++ o1 v.shortenedAt) y
  judgeOpen d slot (setInst slot (some v) y)

/-- R94: the cause of the claim's ROUTE report. -/
def claimCause (short : Option (Nat × Nat)) : Nat := if short.isSome then cShortened else cClaimed

/-! ### The waiting list -/

/-- R97: a request joins the list: its result and the list. -/
def joinWaiting (d : Desc) (q : WalkRequest) (l : LinkId) (tried : Bool) (y : Blocks) : Nat × Blocks :=
  if y.wait.any fun e => e.definition == q.definition then (rDuplicate, y)
  else if 16 ≤ y.wait.length then (rListFull, y)
  else
    (rStored, { y with wait := y.wait ++
      [⟨q.definition, l, q.origin, q.stopShort, q.key, q.tram, tried, d.tStore⟩] })

/-- R97: the walk request an entry stands for. -/
def WaitEntry.request (e : WaitEntry) : WalkRequest :=
  ⟨e.definition, .link e.link, e.origin, true, e.stopShort, e.key, e.tram, none⟩

/-- The entry for a definition removed. -/
def dropWaiting (definition : Nat) (y : Blocks) : Blocks :=
  { y with wait := y.wait.filter fun e => e.definition != definition }

/-- R99 to R101: a ROUTE report about a waiting entry, to its requester link too.  DESIGN CHOICE (log
entry 31): the report's tram is that of the entry, 0 where the request named none. -/
def waitReport (cause : Nat) (e : WaitEntry) (last : List Byte) (y : Blocks) : Blocks :=
  postAlso .route (some e.link)
    (routeCommon cause none e.definition e.link (some e.tram) none ++ last) y

/-! ### Walks of the five requesters -/

/-- The request kind that a walk answers (R96). -/
def Origin.kind : Origin → Byte
  | .call => kCall
  | _ => kSetRoute

/-- R81: the walker takes the active slot's request; the staged one moves up.  The reserved
place goes to the answer (R173). -/
def popSlot (l : LinkId) (y : Blocks) : Blocks :=
  let u := y.link l
  setLink l { u with active := u.staged, staged := none, reserved := u.reserved - 1 } y

/-- R84 check 1, R96: a walk of a link's request outside RUNNING.  DESIGN CHOICE (log entry 35): a
CALL's request joins the waiting list in PROVING and WAKING as R84 says of every link request with
STORE set, where R97 names only a SET ROUTE. -/
def walkOutside (d : Desc) (l : LinkId) (q : WalkRequest) (y : Blocks) : Blocks :=
  if (y.mode = .proving ∨ y.mode = .waking) ∧ q.store = true then
    let r := joinWaiting d q l false y
    answer l q.origin.kind r.1 [] r.2
  else wrongMode l q.origin.kind y

/-- R96: a walk of a link's request in RUNNING. -/
def walkInside (d : Desc) (l : LinkId) (q : WalkRequest) (y : Blocks) : Blocks :=
  match walkVerdict d y q, freeSlotIndex y with
  | .pass short, some slot =>
    let y := claim d q l short slot (claimCause short) none y
    match short with
    | none => answer l q.origin.kind rDone (b1 slot) y
    | some (g, _) => answer l q.origin.kind rShortened (b1 slot ++ b1 g) y
  | .pass _, none => placeAnswer l q.origin.kind Failure.listFull.body y
  | .fail f, _ =>
    if q.store && transient q.origin f then
      let r := joinWaiting d q l true y
      answer l q.origin.kind r.1 [] r.2
    else placeAnswer l q.origin.kind f.body y

/-- R83: link l's turn. -/
def walkLink (d : Desc) (l : LinkId) (y : Blocks) : Blocks :=
  match (y.link l).active with
  | none => y
  | some q =>
    let y := popSlot l y
    if y.mode = .running then walkInside d l q y else walkOutside d l q y

/-- R98: the oldest entry whose tried mark is clear. -/
def offeredWaiting (y : Blocks) : Option WaitEntry := y.wait.find? fun e => !e.tried

/-- The entry for a definition marked tried. -/
def markTried (definition : Nat) (y : Blocks) : Blocks :=
  { y with wait := y.wait.map fun e =>
      if e.definition = definition then { e with tried := true } else e }

/-- R99: the waiting list's turn. -/
def walkWaiting (d : Desc) (y : Blocks) : Blocks :=
  match offeredWaiting y with
  | none => y
  | some e =>
    match walkVerdict d y e.request, freeSlotIndex y with
    | .pass short, some slot =>
      claim d e.request e.link short slot cFromStore (some e.link) (dropWaiting e.definition y)
    | .pass _, none => markTried e.definition y
    | .fail f, _ =>
      if transient e.origin f then markTried e.definition y
      else waitReport cStoreFailed e f.body (dropWaiting e.definition y)

/-- R83: the walk request of a programme entry. -/
def ProgEntry.request (e : ProgEntry) : WalkRequest :=
  ⟨e.definition, .programme, .programme, false, false, 0, e.tram, some e.movement⟩

/-- R151: a transient failure puts entry i back to CALLED, tried, without a report. -/
def retryEntry (i : Nat) (y : Blocks) : Blocks :=
  match y.prog.entries[i]? with
  | some e => setEntry i { e with state := .called, tried := true } y
  | none => y

/-- R151: the programme's turn; the offer follows (R150). -/
def walkProgramme (d : Desc) (y : Blocks) : Blocks :=
  match findEntry (fun e => e.state == .dispatched) y with
  | none => y
  | some i =>
    match y.prog.entries[i]? with
    | none => y
    | some e =>
      judgeOffer d
        (match walkVerdict d y e.request, freeSlotIndex y, plannerLink y with
        | .pass short, some slot, some l =>
          moveEntry i .running (some slot) none
            (claim d e.request l short slot (claimCause short) none y)
        | .fail f, _, _ =>
          if transient .programme f then retryEntry i y
          else moveEntry i .failed none (some (.walk f)) y
        | _, _, _ => retryEntry i y)

/-- R83: is a requester ready? -/
def ready (y : Blocks) : Turn → Bool
  | .waiting => (y.mode == .running) && (offeredWaiting y).isSome
  | .link l => (y.link l).active.isSome
  | .programme => (y.mode == .running) && !y.prog.hold && y.prog.offering

/-- R83: the fixed rotation, beginning after the requester the pointer names. -/
def rotationAfter : Turn → List Turn
  | .waiting => [.link .a, .link .b, .link .c, .programme, .waiting]
  | .link .a => [.link .b, .link .c, .programme, .waiting, .link .a]
  | .link .b => [.link .c, .programme, .waiting, .link .a, .link .b]
  | .link .c => [.programme, .waiting, .link .a, .link .b, .link .c]
  | .programme => [.waiting, .link .a, .link .b, .link .c, .programme]

/-- R83: the requester to be granted. -/
def nextTurn (y : Blocks) : Option Turn := (rotationAfter y.rot).find? (ready y)

/-- R83: the walk of a requester. -/
def takeTurn (d : Desc) (y : Blocks) : Turn → Blocks
  | .waiting => walkWaiting d y
  | .link l => walkLink d l y
  | .programme => walkProgramme d y

/-- R83: one grant; with no requester ready the walker waits. -/
def grantWalk (d : Desc) (y : Blocks) : Blocks :=
  match nextTurn y with
  | none => y
  | some t => takeTurn d { y with rot := t } t

/-- R100: the life timer of the entry for a definition expires. -/
def lifeExpiry (definition : Nat) (y : Blocks) : Blocks :=
  match y.wait.find? fun e => e.definition == definition with
  | none => y
  | some e => waitReport cExpired e [] (dropWaiting definition y)

end Sys2Proof.Machine
end

