-- ==== Sys2Proof/Machine/AreaRequests.lean ====
section
/-! DEFINITION. POSSESS AREA (R162) and END POSSESSION (R166). -/

namespace Sys2Proof.Machine

/-- R162: the checks of the body. -/
def possessOk (a key : Byte) : Bool :=
  decide (a.toNat ≤ 7) && decide (1 ≤ key.toNat) && decide (key.toNat ≤ 15)

/-- R162 steps 1 to 4: at once POSSESSED, or PENDING. -/
def possessNow (d : Desc) (a key : Nat) (y : Blocks) : Blocks :=
  let z := setArea a { y.area a with key := key } y
  if grantCondition d z a then grantArea d a z
  else areaReport 0 a .free .pending key (setArea a { status := .pending, key := key } z)

/-- R162. -/
def servePossess (l : LinkId) (a key : Byte) (d : Desc) (y : Blocks) : Blocks :=
  inRunning l kPossessArea (fun y =>
    if possessOk a key then
      if (y.area a.toNat).status = .free then
        let z := possessNow d a.toNat key.toNat y
        answer l kPossessArea rDone (b1 (z.area a.toNat).status.code) z
      else answer l kPossessArea rInUse [] y
    else answer l kPossessArea rBadValue [] y) y

/-- R166: a live instance with works key k holds a section of the area. -/
def keyHolds (d : Desc) (y : Blocks) (a k : Nat) : Bool :=
  slots24.any fun i =>
    match y.inst i with
    | some v => (v.key == some k) && v.unreleased.any fun s => d.secArea s == a
    | none => false

/-- R166: the area becomes FREE; the report gives the key as it stood before (R167). -/
def freeArea (d : Desc) (a : Nat) (y : Blocks) : Blocks :=
  let v := y.area a
  releaseEvent d (areaReport 2 a v.status .free v.key (setArea a { status := .free, key := 0 } y))

/-- R166. -/
def serveEndPossession (l : LinkId) (a : Byte) (d : Desc) (y : Blocks) : Blocks :=
  inRunning l kEndPossession (fun y =>
    if 7 < a.toNat then answer l kEndPossession rBadValue [] y
    else
      match (y.area a.toNat).status with
      | .free => answer l kEndPossession rDone [] y
      | .pending => answer l kEndPossession rDone [] (freeArea d a.toNat y)
      | .possessed =>
        if keyHolds d y a.toNat (y.area a.toNat).key then answer l kEndPossession rInUse [] y
        else answer l kEndPossession rDone [] (freeArea d a.toNat y)) y

/-! ### Commands -/

def execPossessArea (l : LinkId) (a key : Byte) (s : State) : Host.Outcome State Fault Refusal :=
  .next (finish (takeRequest l kPossessArea 2 (onBlocks (servePossess l a key)) s))
def execEndPossession (l : LinkId) (a : Byte) (s : State) : Host.Outcome State Fault Refusal :=
  .next (finish (takeRequest l kEndPossession 1 (onBlocks (serveEndPossession l a)) s))

end Sys2Proof.Machine
end

