-- ==== Sys2Proof/Machine/Validation.lean ====
section
/-! DEFINITION. Validation of a loaded description (R12 to R16, Table 13): the tables in id
order, the records in index order, the checks of a record in the order the rules list them;
the first failing check is the result. -/

namespace Sys2Proof.Machine

/-- Table 13. -/
inductive Reason where
  | range | reference | kind | repeated | channel | place | missingPoint | emptyPointSection
  | mouth | roadExit | bothRoads | index | cellRoad | boundary | routeRoad | roles
  deriving DecidableEq, Repr

/-- Table 13: the codes 1 to 16. -/
def Reason.code : Reason → Nat
  | .range => 1 | .reference => 2 | .kind => 3 | .repeated => 4 | .channel => 5 | .place => 6
  | .missingPoint => 7 | .emptyPointSection => 8 | .mouth => 9 | .roadExit => 10
  | .bothRoads => 11 | .index => 12 | .cellRoad => 13 | .boundary => 14 | .routeRoad => 15
  | .roles => 16

/-- One check: its condition, and the reason when the condition fails. -/
def chk (ok : Bool) (r : Reason) : Option Reason := if ok then none else some r

/-- The first failing check. -/
def firstFail (checks : List (Option Reason)) : Option Reason := checks.findSome? id

/-- A range of values. -/
def within (lo hi n : Nat) : Bool := decide (lo ≤ n) && decide (n ≤ hi)

/-- An index in range (else RANGE) that names an item in use (else REFERENCE). -/
def chkRef (hi : Nat) (inUse : Nat → Bool) (i : Nat) : Option Reason :=
  firstFail [chk (decide (i ≤ hi)) .range, chk (inUse i) .reference]

/-- An index that may be none. -/
def chkOptRef (hi : Nat) (inUse : Nat → Bool) (i : Nat) : Option Reason :=
  if i = 255 then none else chkRef hi inUse i

/-! ### R13 -/

def checkSection (d : Desc) (i : Nat) : Option Reason :=
  firstFail
    [chk (decide (d.secKind i ≤ 3) && decide (d.secArea i ≤ 7)) .range,
     chk (decide (d.secInput i ≤ 127)) .range,
     chk (!((List.range i).any fun j => d.secInUse j && (d.secInput j == d.secInput i))) .channel,
     if d.secKind i = kindMouth ∨ d.secKind i = kindCell then
       chkRef 23 d.roadInUse (d.secRoad i) else none,
     if d.secKind i = kindMouth then chk (d.roadMouth (d.secRoad i) == i) .mouth else none,
     if d.secKind i = kindCell then
       firstFail [chk (within 1 4000 (d.secOuter i)) .range,
                  chk ((d.roadCells (d.secRoad i)).contains i) .cellRoad]
     else none,
     if d.secKind i = kindPoint then
       chk (d.pts.any fun p => d.ptSec p == i) .emptyPointSection else none]

def checkPoint (d : Desc) (i : Nat) : Option Reason :=
  firstFail
    [chkRef 95 d.secInUse (d.ptSec i),
     chk (d.secKind (d.ptSec i) == kindPoint) .kind,
     chk (within 60 200 (d.ptStroke i)) .range,
     chk (decide (d.ptChannel i ≤ 63)) .range,
     chk (!((List.range i).any fun j => d.ptInUse j && (d.ptChannel j == d.ptChannel i))) .channel]

def checkSignal (d : Desc) (i : Nat) : Option Reason :=
  firstFail
    [chk (decide (d.sigKind i ≤ 1)) .range,
     chk (decide (d.sigChannel i ≤ 63)) .range,
     chk (!((List.range i).any fun j => d.sigInUse j && (d.sigChannel j == d.sigChannel i))) .channel]

/-! ### R14 -/

/-- R14 step 5: one listed section, `earlier` those before it. -/
def checkRouteSection (d : Desc) (approach : Nat) (earlier : List Nat) (s : Nat) : Option Reason :=
  firstFail [chkRef 95 d.secInUse s, chk (!(earlier.contains s) && (s != approach)) .repeated]

/-- R14 step 6: point requirement n of route r. -/
def checkRoutePoint (d : Desc) (r : Nat) (secs : List Nat) (n : Nat) : Option Reason :=
  let p := d.rtByte r (19 + 2 * n)
  let earlier := (List.range n).map fun j => d.rtByte r (19 + 2 * j)
  firstFail
    [chkRef 47 d.ptInUse p,
     chk (decide (d.rtByte r (20 + 2 * n) ≤ 1)) .range,
     chk (secs.contains (d.ptSec p)) .place,
     chk (!(earlier.contains p)) .repeated]

/-- R14 step 8: flank requirement n of route r. -/
def checkRouteFlank (d : Desc) (r : Nat) (secs pts : List Nat) (n : Nat) : Option Reason :=
  let p := d.rtByte r (36 + 3 * n)
  let earlier := (List.range n).map fun j => d.rtByte r (36 + 3 * j)
  firstFail
    [chkRef 47 d.ptInUse p,
     chk (decide (d.rtByte r (37 + 3 * n) ≤ 1)) .range,
     chk (decide (d.rtByte r (38 + 3 * n) < secs.length)) .index,
     chk (!(secs.contains (d.ptSec p))) .place,
     chk (!(pts.contains p) && !(earlier.contains p)) .repeated]

/-- R14 step 9: intermediate signal n of route r. -/
def checkRouteInter (d : Desc) (r : Nat) (secs : List Nat) (n : Nat) : Option Reason :=
  let g := d.rtByte r (55 + 2 * n)
  let k := d.rtByte r (56 + 2 * n)
  let earlier := (List.range n).map fun j => d.rtByte r (55 + 2 * j)
  firstFail
    [chkRef 63 d.sigInUse g,
     chk (d.sigKind g == kindEntrance) .kind,
     chk ((g != d.rtByte r 0) && !(earlier.contains g)) .repeated,
     chk (decide (k < secs.length) && (n == 0 || decide (d.rtByte r (56 + 2 * (n - 1)) < k))) .index]

def checkRoute (d : Desc) (r : Nat) : Option Reason :=
  let secs := (List.range (d.rtByte r 5)).map fun n => d.rtByte r (6 + n)
  let pts := (List.range (d.rtByte r 18)).map fun n => d.rtByte r (19 + 2 * n)
  let origin := d.rtByte r 3
  let dest := d.rtByte r 4
  firstFail
    [chkRef 63 d.sigInUse (d.rtByte r 0),
     chkOptRef 63 d.sigInUse (d.rtByte r 1),
     chkOptRef 95 d.secInUse (d.rtByte r 2),
     chkOptRef 23 d.roadInUse origin,
     chkOptRef 23 d.roadInUse dest,
     chk (origin == 255 || dest == 255) .bothRoads,
     chk (within 1 12 (d.rtByte r 5)) .range,
     (List.range (d.rtByte r 5)).findSome? fun n =>
       checkRouteSection d (d.rtByte r 2) (secs.take n) (d.rtByte r (6 + n)),
     chk (decide (d.rtByte r 18 ≤ 8)) .range,
     (List.range (d.rtByte r 18)).findSome? (checkRoutePoint d r secs),
     chk ((d.pts.filter fun p => secs.contains (d.ptSec p)).all pts.contains) .missingPoint,
     chk (decide (d.rtByte r 35 ≤ 6)) .range,
     (List.range (d.rtByte r 35)).findSome? (checkRouteFlank d r secs pts),
     chk (decide (d.rtByte r 54 ≤ 3)) .range,
     (List.range (d.rtByte r 54)).findSome? (checkRouteInter d r secs),
     if origin ≠ 255 then
       firstFail [chk (d.rtByte r 6 == d.roadMouth origin) .mouth,
                  chk (d.rtByte r 0 == d.roadExit origin) .roadExit]
     else chk (d.sigKind (d.rtByte r 0) == kindEntrance) .kind,
     if dest ≠ 255 then
       chk (d.rtByte r (6 + (d.rtByte r 5 - 1)) == d.roadMouth dest) .mouth else none]

/-! ### R15 -/

/-- Values that increase strictly. -/
def rising : List Nat → Bool
  | a :: b :: rest => decide (a < b) && rising (b :: rest)
  | _ => true

def checkRoadCell (d : Desc) (i n : Nat) : Option Reason :=
  let c := d.byte 5 (16 * i + 3 + n)
  firstFail
    [chkRef 95 d.secInUse c,
     chk (d.secKind c == kindCell) .kind,
     chk (d.secRoad c == i) .cellRoad,
     chk (!(((List.range n).map fun j => d.byte 5 (16 * i + 3 + j)).contains c)) .repeated]

def checkRoad (d : Desc) (i : Nat) : Option Reason :=
  let outers := (d.roadCells i).map d.secOuter
  firstFail
    [chkRef 95 d.secInUse (d.roadMouth i),
     chk (d.secKind (d.roadMouth i) == kindMouth) .kind,
     chk (d.secRoad (d.roadMouth i) == i) .mouth,
     chkRef 63 d.sigInUse (d.roadExit i),
     chk (d.sigKind (d.roadExit i) == kindRoadExit) .kind,
     chk (!((List.range i).any fun j => d.roadInUse j && (d.roadExit j == d.roadExit i))) .repeated,
     chk (within 1 6 (d.roadCellCount i)) .range,
     (List.range (d.roadCellCount i)).findSome? (checkRoadCell d i),
     chk (within 200 4000 (d.roadL i) && within 0 100 (d.roadB i) && within 10 80 (d.roadG i) &&
       within 5 50 (d.roadT i)) .range,
     chk (rising outers && (outers.getLast? == some (d.roadL i))) .boundary]

def checkCandidate (d : Desc) (i n : Nat) : Option Reason :=
  let road := d.byte 6 (16 * i + 4 + 2 * n)
  let route := d.byte 6 (16 * i + 5 + 2 * n)
  firstFail
    [chkRef 23 d.roadInUse road,
     chk (!(((List.range n).map fun j => d.byte 6 (16 * i + 4 + 2 * j)).contains road)) .repeated,
     chkRef 239 d.rtLoaded route,
     chk (d.rtByte route 4 == road) .routeRoad]

def checkPost (d : Desc) (i : Nat) : Option Reason :=
  firstFail
    [chk (decide (d.postKind i ≤ 1)) .range,
     if d.postKind i = 1 then
       firstFail
         [chkRef 23 d.roadInUse (d.postRoad i),
          chkRef 239 d.rtLoaded (d.postRoute i),
          chk (d.rtByte (d.postRoute i) 3 == d.postRoad i) .routeRoad]
     else
       firstFail
         [chk (within 1 6 (d.byte 6 (16 * i + 3))) .range,
          (List.range (d.byte 6 (16 * i + 3))).findSome? (checkCandidate d i)]]

/-! ### R16 -/

/-- The link records from A on, `seen` the roles of the records before: record and reason. -/
def checkLinks (d : Desc) : List LinkId → List Nat → Option (Nat × Reason)
  | [], seen => if seen.contains 0 then none else some (255, .roles)
  | l :: rest, seen =>
    let role := d.linkRole l
    if 3 < role ∧ role ≠ 255 then some (linkCode l, .range)
    else if role ≤ 2 ∧ seen.contains role = true then some (linkCode l, .roles)
    else checkLinks d rest (role :: seen)

def checkTiming (d : Desc) : Option Reason :=
  firstFail
    [chk (within 5 50 d.tClear) .range, chk (within 20 150 d.tStroke) .range,
     chk (within 1 20 d.tDead) .range, chk (within 2 12 d.tolC) .range,
     chk (within 1 6 d.driveLimit) .range, chk (within 100 2400 d.tApproach) .range,
     chk (within 300 9000 d.tStore) .range, chk (within 200 3000 d.tArrive) .range,
     chk (within 20 300 d.tHold) .range, chk (within 100 6000 d.tCycle) .range,
     chk (within 600 36000 d.tQuiet) .range, chk (within 1 8 d.window) .range,
     chk (within 80 700 d.defaultLength) .range, chk (within 0 1 (d.byteOr 8 20 0)) .range]

/-! ### R12 -/

/-- The first failing record of a table: table id, record index, reason code. -/
def tableFault (t : Nat) (records : List Nat) (check : Nat → Option Reason) :
    Option (Nat × Nat × Nat) :=
  records.findSome? fun i => (check i).map fun r => (t, i, r.code)

/-- R12: the result of validation, none when the description is valid. -/
def validate (d : Desc) : Option (Nat × Nat × Nat) :=
  [tableFault 1 d.secs (checkSection d),
   tableFault 2 d.pts (checkPoint d),
   tableFault 3 d.sigs (checkSignal d),
   tableFault 4 ((List.range 240).filter d.rtLoaded) (checkRoute d),
   tableFault 5 ((List.range 24).filter d.roadInUse) (checkRoad d),
   tableFault 6 ((List.range 32).filter d.postInUse) (checkPost d),
   (checkLinks d links3 []).map fun (i, r) => (7, i, r.code),
   tableFault 8 [0] fun _ => checkTiming d].findSome? id

end Sys2Proof.Machine
end

