-- ==== Sys2Proof/Machine/Load.lean ====
section
/-! DEFINITION. Loading (R17 to R24): OPEN LOAD, LOAD BLOCK, CLOSE LOAD, the load idle timer,
the coming into force of a description (R21, R26, R44), and power-on reset (R2, R17, R169). -/

namespace Sys2Proof.Machine

/-! ### OPEN LOAD -/

/-- R19 step 4: the yard blocks at their power-on values. -/
def yardReset (y : Blocks) : Blocks :=
  { Blocks.reset with ctl := y.ctl, links := y.links, reps := y.reps, out := y.out }

/-- R168: role, permitted areas and subscription lapse. -/
def lapseLink (l : LinkId) (y : Blocks) : Blocks :=
  setLink l { y.link l with role := none, areas := 0, subscription := 0 } y

/-- The load idle limit (Table 12) starts or restarts. -/
def restartIdle (y : Blocks) : Blocks :=
  { y with ctl := { y.ctl with idleTimer := some Config.loadIdle } }

/-- R19 steps 1, 2 and 4, with the lapse of the roles. -/
def startLoad (l : LinkId) (y : Blocks) : Blocks :=
  let y := links3.foldl (fun y k => lapseLink k y) (yardReset y)
  restartIdle { y with ctl := { y.ctl with loadingLink := some l } }

/-- R18, R19: an OPEN LOAD is accepted in UNLOADED. -/
def openFromUnloaded (l : LinkId) (s : State) : State :=
  { s with
    desc := {}
    blk := answer l kOpenLoad rDone [] (changeModeAll .loading (startLoad l s.blk)) }

/-- R18, R19: an OPEN LOAD is accepted in RUNNING; its MODE report is posted under the
description that is given up (R17). -/
def openFromRunning (l : LinkId) (s : State) : State :=
  { s with
    desc := {}
    blk := answer l kOpenLoad rDone [] (startLoad l (changeMode .loading s.blk)) }

/-- R19, R82: the restart of a load: the other yard blocks stand at the values the start gave
them; the rotation pointer, which a slot's walk in LOADING may have moved, names the programme
again. -/
def restartLoad (l : LinkId) (s : State) : State :=
  { s with
    desc := {}
    blk := answer l kOpenLoad rDone [] (restartIdle { s.blk with rot := .programme }) }

/-- R18, Table 15. -/
def takeOpenLoad (l : LinkId) (s : State) : State :=
  match s.blk.mode with
  | .unloaded => openFromUnloaded l s
  | .loading =>
    if s.blk.ctl.loadingLink = some l then restartLoad l s
    else onBlocks (fun _ y => answer l kOpenLoad rBusy [] y) s
  | .running =>
    if (s.blk.link l).role = some .desk then
      if yardIdle s.desc s.blk then openFromRunning l s
      else onBlocks (fun _ y => answer l kOpenLoad rNotIdle [] y) s
    else onBlocks (fun _ y => answer l kOpenLoad rNotPermitted [] y) s
  | _ => onBlocks (fun _ y => wrongMode l kOpenLoad y) s

/-! ### LOAD BLOCK -/

/-- R20 step 1. -/
def blockFits (table offset n : Nat) : Bool :=
  decide (1 ≤ table) && decide (table ≤ 8) && decide (offset + n ≤ tableSize table)

/-- R20. -/
def takeLoadBlock (l : LinkId) (table : Byte) (offset : Half) (data : List Byte) (s : State) : State :=
  if s.blk.mode ≠ .loading then onBlocks (fun _ y => wrongMode l kLoadBlock y) s
  else if s.blk.ctl.loadingLink ≠ some l then
    onBlocks (fun _ y => answer l kLoadBlock rNotPermitted [] y) s
  else if blockFits table.toNat offset.toNat data.length then
    { s with
      desc := { s.desc with
        mem := memWriteAll s.desc.mem (descAddr table.toNat offset.toNat) data }
      blk := answer l kLoadBlock rDone [] (restartIdle s.blk) }
  else onBlocks (fun _ y => answer l kLoadBlock rBadValue [] (restartIdle y)) s

/-! ### CLOSE LOAD -/

/-- The load ends: the idle timer stops, no loading link. -/
def endLoad (y : Blocks) : Blocks :=
  { y with ctl := { y.ctl with idleTimer := none, loadingLink := none } }

/-- R21 step 3: a link takes its record. -/
def takeLinkRecord (d : Desc) (l : LinkId) (y : Blocks) : Blocks :=
  setLink l { y.link l with
    role := some (roleOf (d.linkRole l))
    areas := BitVec.ofNat 8 (d.linkAreas l)
    subscription := BitVec.ofNat 8 (d.linkSub l) } y

/-- R26: the starting state of a section from its present input. -/
def startSection (d : Desc) (p : InputPin) : SectionState :=
  { occ := if p.healthy then .occupied else .disturbed
    level := p.level
    healthy := p.healthy
    timer := if p.healthy ∧ p.level = .clear then some d.tClear else none }

/-- R44: the stroke count that the contacts give. -/
def startCount (s : Nat) (p : ChannelPin) : Nat :=
  if p.normalMade && !p.reverseMade then 0
  else if p.reverseMade && !p.normalMade then s
  else s / 2

/-- R44: the detection that the contacts give. -/
def startDetection (p : ChannelPin) : Detection :=
  if p.normalMade && !p.reverseMade then .normal
  else if p.reverseMade && !p.normalMade then .reverse
  else .lost

/-- R44: the starting state of a point from its present channel. -/
def startPoint (s : Nat) (p : ChannelPin) : PointState :=
  { count := startCount s p
    strokeRef := s
    phaseA := p.levelA
    phaseB := p.levelB
    normalMade := p.normalMade
    reverseMade := p.reverseMade
    computed := startDetection p
    presented := startDetection p
    refCount := startCount s p }

/-- R21 steps 5 and 6: sections and points take what the field port presents. -/
def startYard (d : Desc) (p : Pins) (y : Blocks) : Blocks :=
  let y := d.secs.foldl (fun y i => setSec i (startSection d (tabGet p.inputs {} (d.secInput i))) y) y
  d.pts.foldl
    (fun y i => setPt i (startPoint (d.ptStroke i) (tabGet p.channels {} (d.ptChannel i))) y) y

/-- R39: a STOP command to every in-use signal channel. -/
def stopSignals (d : Desc) (y : Blocks) : Blocks :=
  d.sigs.foldl (fun y g => emit (.aspect (d.sigChannel g) .stop) (setSig g {} y)) y

/-- R21: a valid description `d` comes into force. -/
def comeIntoForce (d : Desc) (p : Pins) (y : Blocks) : Blocks :=
  let y := links3.foldl (fun y k => takeLinkRecord d k y) (endLoad y)
  let y := stopSignals d (startYard d p y)
  let y := changeMode .proving y
  judgeSettled d { y with settleWatch := true }

/-- R22, R23: the load is given up; the mode becomes UNLOADED. -/
def abandonLoad (s : State) : State :=
  { s with desc := {}, blk := changeModeAll .unloaded (endLoad s.blk) }

/-- R21, R22, with validation (R12). -/
def takeCloseLoad (l : LinkId) (s : State) : State :=
  if s.blk.mode ≠ .loading then onBlocks (fun _ y => wrongMode l kCloseLoad y) s
  else if s.blk.ctl.loadingLink ≠ some l then
    onBlocks (fun _ y => answer l kCloseLoad rNotPermitted [] y) s
  else
    match validate s.desc with
    | some (table, record, reason) =>
      onBlocks (fun _ y => answer l kCloseLoad rLoadFault (b1 table ++ b1 record ++ b1 reason) y)
        (abandonLoad s)
    | none =>
      let d : Desc := { s.desc with inForce := true }
      { s with
        desc := d
        blk := answer l kCloseLoad rDone [] (comeIntoForce d s.pins s.blk) }

/-- R23: the load idle timer expires. -/
def loadIdleExpiry (s : State) : State :=
  if s.blk.mode = .loading ∧ s.blk.ctl.idleTimer.isSome = true then abandonLoad s else s

/-! ### Power-on reset -/

/-- R17, R2, R168, R169: every block at its power-on value, the address and rate pins read. -/
def powerOn (addr : BitVec 7) (ra rb rc : BitVec 2) : Blocks :=
  { Blocks.reset with
    ctl := { addr := addr }
    links := ⟨{ rate := ra }, { rate := rb }, { rate := rc }⟩ }

/-! ### Commands -/

def execPowerOnReset (addr : BitVec 7) (ra rb rc : BitVec 2) (s : State) :
    Host.Outcome State Fault Refusal :=
  .next { s with desc := {}, blk := powerOn addr ra rb rc }
def execOpenLoad (l : LinkId) (s : State) : Host.Outcome State Fault Refusal :=
  .next (finish (takeRequest l kOpenLoad 0 (takeOpenLoad l) s))
def execLoadBlock (l : LinkId) (table : Byte) (offset : Half) (data : List Byte) (s : State) :
    Host.Outcome State Fault Refusal :=
  .next (finish
    (takeRequest l kLoadBlock (3 + data.length) (takeLoadBlock l table offset data) s))
def execCloseLoad (l : LinkId) (s : State) : Host.Outcome State Fault Refusal :=
  .next (finish (takeRequest l kCloseLoad 0 (takeCloseLoad l) s))
def execLoadIdleTimerExpiry (s : State) : Host.Outcome State Fault Refusal :=
  .next (finish (loadIdleExpiry s))

end Sys2Proof.Machine
end

