-- ==== Sys2Proof/Machine/ModeRequests.lean ====
section
/-! DEFINITION. SET GRANULARITY (R72), ENTER QUIET (R75), WAKE (R77 to R79) and the timers of
the test scheduler (R67, R68, R70). -/

namespace Sys2Proof.Machine

/-- R72. -/
def granularityOk (g : Byte) : Bool := decide (g = 1) || decide (g = 2) || decide (g = 4)

/-- R72: a valid value becomes the pending granularity. -/
def setPending (g : Nat) (y : Blocks) : Blocks := { y with tst := { y.tst with pendingG := some g } }

/-- R72: taken in PROVING, RUNNING, QUIET and WAKING. -/
def serveGranularity (l : LinkId) (g : Byte) (_d : Desc) (y : Blocks) : Blocks :=
  match y.mode with
  | .unloaded | .loading => wrongMode l kSetGranularity y
  | _ =>
    if granularityOk g then answer l kSetGranularity rDone [] (setPending g.toNat y)
    else answer l kSetGranularity rBadValue [] y

/-- R75. -/
def serveEnterQuiet (l : LinkId) (d : Desc) (y : Blocks) : Blocks :=
  inRunning l kEnterQuiet (fun y =>
    if yardIdle d y then answer l kEnterQuiet rDone [] (enterQuietNow d y)
    else answer l kEnterQuiet rNotIdle [] y) y

/-- R77: taken in QUIET. -/
def serveWake (l : LinkId) (d : Desc) (y : Blocks) : Blocks :=
  if y.mode = .quiet then answer l kWake rDone [] (wakeNow d y) else wrongMode l kWake y

/-! ### Commands -/

def execSetGranularity (l : LinkId) (g : Byte) (s : State) : Host.Outcome State Fault Refusal :=
  .next (finish (takeRequest l kSetGranularity 1 (onBlocks (serveGranularity l g)) s))
def execEnterQuiet (l : LinkId) (s : State) : Host.Outcome State Fault Refusal :=
  .next (finish (takeRequest l kEnterQuiet 0 (onBlocks (serveEnterQuiet l)) s))
def execWake (l : LinkId) (s : State) : Host.Outcome State Fault Refusal :=
  .next (finish (takeRequest l kWake 0 (onBlocks (serveWake l)) s))
def execIntervalTimerExpiry (s : State) : Host.Outcome State Fault Refusal :=
  .next (finish (yardEvent intervalExpiry s))
def execStepTimerExpiry (s : State) : Host.Outcome State Fault Refusal :=
  .next (finish (yardEvent stepExpiry s))

end Sys2Proof.Machine
end

