-- ==== Sys2Proof/Machine/PointRequests.lean ====
section
/-! DEFINITION. The desk's operations on points (R59 to R61), the events of the point channels
(R45, R47, R69) and the point timers (R52, R53, R62, R63). -/

namespace Sys2Proof.Machine

/-- The index checks of the four desk operations (section 3.7): BAD_VALUE above 47, NOT_FOUND
for a record not in use. -/
def onPoint (l : LinkId) (kind p : Byte) (op : Desc → Nat → Blocks → Blocks) (d : Desc) (y : Blocks) :
    Blocks :=
  inRunning l kind (fun y =>
    if 47 < p.toNat then answer l kind rBadValue [] y
    else if d.ptInUse p.toNat then op d p.toNat y
    else answer l kind rNotFound [] y) y

/-- R59, R61: route-locked or flank-held. -/
def PointState.locked (p : PointState) : Bool := p.routeOwner.isSome || decide (0 < p.flankCount)

/-- R59: the checks, in order. -/
def driveRefusal (d : Desc) (i : Nat) (y : Blocks) : Option Nat :=
  if (y.pt i).drive = .learning then some rLearning
  else if (y.pt i).locked then some rLocked
  else if y.secBusy (d.ptSec i) then some rOccupied
  else none

/-- R59.  The position value is checked after the index (log entry 19). -/
def serveDrive (l : LinkId) (p position : Byte) : Desc → Blocks → Blocks :=
  onPoint l kDrivePoint p fun d i y =>
    if 1 < position.toNat then answer l kDrivePoint rBadValue [] y
    else
      match driveRefusal d i y with
      | some code => answer l kDrivePoint code [] y
      | none => answer l kDrivePoint rDone [] (driveCommand d i (positionOf position.toNat) y)

/-- R60: BLOCK POINT. -/
def blockNow (i : Nat) (y : Blocks) : Blocks :=
  if (y.pt i).blocked then y else pointReport cBlocked i (modPt i ({ · with blocked := true }) y)

def serveBlock (l : LinkId) (p : Byte) : Desc → Blocks → Blocks :=
  onPoint l kBlockPoint p fun _ i y => answer l kBlockPoint rDone [] (blockNow i y)

/-- R60: UNBLOCK POINT; clearing a set mark is a release event. -/
def unblockNow (d : Desc) (i : Nat) (y : Blocks) : Blocks :=
  if (y.pt i).blocked then
    releaseEvent d (pointReport cUnblocked i (modPt i ({ · with blocked := false }) y))
  else y

def serveUnblock (l : LinkId) (p : Byte) : Desc → Blocks → Blocks :=
  onPoint l kUnblockPoint p fun d i y =>
    if (y.pt i).drive = .learning then answer l kUnblockPoint rLearning [] y
    else answer l kUnblockPoint rDone [] (unblockNow d i y)

/-- R61: the checks, in order. -/
def learnRefusal (d : Desc) (i : Nat) (y : Blocks) : Option Nat :=
  let p := y.pt i
  if p.drive = .learning then some rLearning
  else if !p.blocked then some rInUse
  else if p.locked then some rLocked
  else if y.secBusy (d.ptSec i) then some rOccupied
  else if (p.drive ≠ .idle ∧ p.drive ≠ .failed) ∨ p.underTest = true ∨ p.presented ≠ .normal then
    some rNotIdle
  else none

/-- R61: the point is queued for learning, and slots are granted (R50).  The change makes the
point busy, so it grants no area. -/
def learnNow (d : Desc) (i : Nat) (y : Blocks) : Blocks :=
  let y := modPt i ({ · with drive := .learning, phase := some .waiting })
    { y with queue := y.queue ++ [i] }
  grantSlots d (recompute d i y)

def serveLearn (l : LinkId) (p : Byte) : Desc → Blocks → Blocks :=
  onPoint l kLearnPoint p fun d i y =>
    match learnRefusal d i y with
    | some code => answer l kLearnPoint code [] y
    | none => answer l kLearnPoint rDone [] (learnNow d i y)

/-! ### The field port's side of a channel -/

/-- R45: the phase levels channel n presents. -/
def Pins.phase (p : Pins) (n : Nat) (a b : Bool) : Pins :=
  { p with channels := tabSet p.channels n { tabGet p.channels {} n with levelA := a, levelB := b } }

/-- R47: the contact states channel n presents. -/
def Pins.contacts (p : Pins) (n : Nat) (nm rm : Bool) : Pins :=
  { p with channels :=
      tabSet p.channels n { tabGet p.channels {} n with normalMade := nm, reverseMade := rm } }

/-! ### Commands -/

def execDrivePoint (l : LinkId) (p position : Byte) (s : State) : Host.Outcome State Fault Refusal :=
  .next (finish (takeRequest l kDrivePoint 2 (onBlocks (serveDrive l p position)) s))
def execBlockPoint (l : LinkId) (p : Byte) (s : State) : Host.Outcome State Fault Refusal :=
  .next (finish (takeRequest l kBlockPoint 1 (onBlocks (serveBlock l p)) s))
def execUnblockPoint (l : LinkId) (p : Byte) (s : State) : Host.Outcome State Fault Refusal :=
  .next (finish (takeRequest l kUnblockPoint 1 (onBlocks (serveUnblock l p)) s))
def execLearnPoint (l : LinkId) (p : Byte) (s : State) : Host.Outcome State Fault Refusal :=
  .next (finish (takeRequest l kLearnPoint 1 (onBlocks (serveLearn l p)) s))
def execPhaseReport (n : Nat) (a b : Bool) (s : State) : Host.Outcome State Fault Refusal :=
  .next (finish (onBlocks (fun d y => channelEvent d n (fun i y => takePhase d i a b y) y)
    { s with pins := s.pins.phase n a b }))
def execContactReport (n : Nat) (nm rm : Bool) (s : State) : Host.Outcome State Fault Refusal :=
  .next (finish (onBlocks (fun d y => channelEvent d n (fun i y => takeContacts d i nm rm y) y)
    { s with pins := s.pins.contacts n nm rm }))
def execTestOutcomeReport (n : Nat) (r : TestReport) (s : State) :
    Host.Outcome State Fault Refusal :=
  .next (finish (onBlocks (fun d y => channelEvent d n (fun i y => takeOutcome i r y) y) s))
def execDriveTimeout (i : Nat) (s : State) : Host.Outcome State Fault Refusal :=
  .next (finish (yardEvent (fun d y => strokeExpiry d i y) s))
def execRestTimerExpiry (i : Nat) (s : State) : Host.Outcome State Fault Refusal :=
  .next (finish (yardEvent (fun d y => restExpiry d i y) s))
def execSettleTimerExpiry (i : Nat) (s : State) : Host.Outcome State Fault Refusal :=
  .next (finish (yardEvent (fun d y => settleExpiry d i y) s))
def execLearningTimerExpiry (i : Nat) (s : State) : Host.Outcome State Fault Refusal :=
  .next (finish (yardEvent (fun d y => learnExpiry d i y) s))

end Sys2Proof.Machine
end

