-- ==== Sys2Proof/Machine/RouteRequests.lean ====
section
/-! DEFINITION. Route requests (R80, R81), the desk's requests on instances (R117 to R120),
WITHDRAW (R101), the walker's grant (R83) and the route timers (R100, R118, R121). -/

namespace Sys2Proof.Machine

/-! ### SET ROUTE -/

/-- R81: a walk request takes a slot of its link and reserves an answer place (R173), or is
refused BUSY. -/
def placeSlot (l : LinkId) (q : WalkRequest) (y : Blocks) : Blocks :=
  let u := y.link l
  match u.active, u.staged with
  | none, _ => setLink l { u with active := some q, reserved := u.reserved + 1 } y
  | some _, none => setLink l { u with staged := some q, reserved := u.reserved + 1 } y
  | some _, some _ => answer l q.origin.kind rBusy [] y

/-- R80: the checks of the SET ROUTE body. -/
def setRouteOk (definition flags key : Byte) (tram : Half) (reserved : Byte) : Bool :=
  decide (definition.toNat ≤ 239) && decide (flags.toNat ≤ 3) && decide (key.toNat ≤ 15) &&
    decide (tram.toNat ≤ 9999) && decide (reserved = 0)

/-- R80: the walk request of a SET ROUTE (Table 20). -/
def setRouteRequest (l : LinkId) (definition flags key : Byte) (tram : Half) : WalkRequest where
  definition := definition.toNat
  requester := .link l
  origin := .setRoute
  store := hasBit flags 0
  stopShort := hasBit flags 1
  key := key.toNat
  tram := tram.toNat
  movement := none

/-- R80: a checked SET ROUTE by mode. -/
def routeByMode (d : Desc) (l : LinkId) (q : WalkRequest) (y : Blocks) : Blocks :=
  match y.mode with
  | .running => placeSlot l q y
  | .proving | .waking =>
    if q.store then
      let r := joinWaiting d q l false y
      answer l kSetRoute r.1 [] r.2
    else wrongMode l kSetRoute y
  | _ => wrongMode l kSetRoute y

/-- R80. -/
def serveSetRoute (l : LinkId) (definition flags key : Byte) (tram : Half) (reserved : Byte) (d : Desc)
    (y : Blocks) : Blocks :=
  match y.mode with
  | .unloaded | .loading => wrongMode l kSetRoute y
  | _ =>
    if setRouteOk definition flags key tram reserved then
      routeByMode d l (setRouteRequest l definition flags key tram) y
    else answer l kSetRoute rBadValue [] y

/-! ### CANCEL, HAND RELEASE, RETRY -/

/-- The shared form of R117, R119 and R120: the request names an entrance signal, and acts on
the live instance that owns it. -/
def onOwner (l : LinkId) (kind g : Byte) (op : Desc → Nat → RouteInst → Blocks → Nat × Blocks)
    (d : Desc) (y : Blocks) : Blocks :=
  inRunning l kind (fun y =>
    if 63 < g.toNat then answer l kind rBadValue [] y
    else if d.sigInUse g.toNat then
      match ownerOf y g.toNat with
      | none => answer l kind rNotFound [] y
      | some (slot, v) =>
        let r := op d slot v y
        answer l kind r.1 [] r.2
    else answer l kind rNotFound [] y) y

def serveCancel (l : LinkId) (g : Byte) : Desc → Blocks → Blocks := onOwner l kCancelRoute g cancelInst
def serveHandRelease (l : LinkId) (g : Byte) : Desc → Blocks → Blocks :=
  onOwner l kHandRelease g handReleaseInst
def serveRetry (l : LinkId) (g : Byte) : Desc → Blocks → Blocks := onOwner l kRetryRoute g retryInst

/-! ### WITHDRAW -/

/-- R101: may link l withdraw entry e? -/
def mayWithdraw (y : Blocks) (l : LinkId) (e : WaitEntry) : Bool :=
  ((y.link l).role == some .desk) || (e.link == l)

/-- R101. -/
def serveWithdraw (l : LinkId) (definition : Byte) (_d : Desc) (y : Blocks) : Blocks :=
  inRunning l kWithdraw (fun y =>
    if 239 < definition.toNat then answer l kWithdraw rBadValue [] y
    else
      match y.wait.find? fun e => e.definition == definition.toNat with
      | none => answer l kWithdraw rNotFound [] y
      | some e =>
        if mayWithdraw y l e then
          answer l kWithdraw rDone [] (waitReport cWithdrawn e [] (dropWaiting definition.toNat y))
        else answer l kWithdraw rNotPermitted [] y) y

/-! ### Commands -/

def execSetRoute (l : LinkId) (definition flags key : Byte) (tram : Half) (reserved : Byte)
    (s : State) : Host.Outcome State Fault Refusal :=
  .next (finish (takeRequest l kSetRoute 6
    (onBlocks (serveSetRoute l definition flags key tram reserved)) s))
def execCancelRoute (l : LinkId) (g : Byte) (s : State) : Host.Outcome State Fault Refusal :=
  .next (finish (takeRequest l kCancelRoute 1 (onBlocks (serveCancel l g)) s))
def execHandRelease (l : LinkId) (g : Byte) (s : State) : Host.Outcome State Fault Refusal :=
  .next (finish (takeRequest l kHandRelease 1 (onBlocks (serveHandRelease l g)) s))
def execRetryRoute (l : LinkId) (g : Byte) (s : State) : Host.Outcome State Fault Refusal :=
  .next (finish (takeRequest l kRetryRoute 1 (onBlocks (serveRetry l g)) s))
def execWithdraw (l : LinkId) (definition : Byte) (s : State) : Host.Outcome State Fault Refusal :=
  .next (finish (takeRequest l kWithdraw 1 (onBlocks (serveWithdraw l definition)) s))
/-- R83.  A request in a link slot is walked in every mode and meets walk check 1 (R81, R84). -/
def execWalkGrant (s : State) : Host.Outcome State Fault Refusal :=
  .next (finish (onBlocks grantWalk s))
def execLifeTimerExpiry (definition : Nat) (s : State) : Host.Outcome State Fault Refusal :=
  .next (finish (yardEvent (fun _ y => lifeExpiry definition y) s))
def execApproachTimerExpiry (slot : Nat) (s : State) : Host.Outcome State Fault Refusal :=
  .next (finish (yardEvent (fun d y => approachExpiry d slot y) s))
def execHandReleaseTimerExpiry (slot : Nat) (s : State) : Host.Outcome State Fault Refusal :=
  .next (finish (yardEvent (fun d y => handReleaseExpiry d slot y) s))

end Sys2Proof.Machine
end

