-- ==== Sys2Proof/Machine/ProgrammeRequests.lean ====
section
/-! DEFINITION. CALL (R154, R155), HOLD, RESUME and SKIP (R156, R157), LOAD and APPEND
PROGRAMME (R158, R159), TIME and the minute timer (R148). -/

namespace Sys2Proof.Machine

/-! ### Calls -/

/-- R154, R155: the first unfinished entry of a kind for a nonzero tram. -/
def callEntryFor (k : EntryKind) (tram : Nat) (y : Blocks) : Option Nat :=
  if tram = 0 then none
  else findEntry (fun e => !e.finished && (e.kind == k) && (e.tram == tram)) y

/-- R154, R155: a PLANNED entry becomes CALLED; the offer follows (R150). -/
def callEntry (d : Desc) (i : Nat) (y : Blocks) : Blocks :=
  match y.prog.entries[i]? with
  | some e => if e.state = .planned then judgeOffer d (moveEntry i .called none none y) else y
  | none => y

/-- The movement number of the entry at place i. -/
def movementAt (i : Nat) (y : Blocks) : Nat := ((y.prog.entries[i]?).map (·.movement)).getD 0

/-- R154, R155: a CALL recorded on entry i. -/
def recordCall (l : LinkId) (d : Desc) (i : Nat) (y : Blocks) : Blocks :=
  answer l kCall rDone (b2 (movementAt i y)) (callEntry d i y)

/-- R81: the walk request of a CALL. -/
def callRequest (l : LinkId) (definition tram : Nat) : WalkRequest :=
  ⟨definition, .link l, .call, true, false, 0, tram, none⟩

/-- R154: a CALL at an ENTRY post. -/
def callAtEntry (l : LinkId) (d : Desc) (post tram : Nat) (y : Blocks) : Blocks :=
  match callEntryFor .arrive tram y with
  | some i => recordCall l d i y
  | none =>
    match chooseRoad d y post tram with
    | some (_, definition) => placeSlot l (callRequest l definition tram) y
    | none => answer l kCall rNoRoad [] y

/-- R155 step 1: the refusal that the stack of the post's road gives, if any. -/
def stackRefusal (r : RoadState) (tram : Nat) : Option Nat :=
  if r.stack.isEmpty then some rNotFound
  else if tram = 0 ∨ r.topTram = tram then none
  else if r.stack.any fun t => t.tram == tram then some rBlockedIn
  else some rNotFound

/-- R155 step 3: the outermost record is DEPARTING. -/
def RoadState.topDeparting (r : RoadState) : Bool :=
  match r.stack.getLast? with
  | some t => t.state == .departing
  | none => false

/-- R155: a CALL at an EXIT post. -/
def callAtExit (l : LinkId) (d : Desc) (post tram : Nat) (y : Blocks) : Blocks :=
  let r := y.road (d.postRoad post)
  match stackRefusal r tram with
  | some code => answer l kCall code [] y
  | none =>
    match callEntryFor .depart tram y with
    | some i => recordCall l d i y
    | none =>
      if r.topDeparting then answer l kCall rInUse [] y
      else placeSlot l (callRequest l (d.postRoute post) tram) y

/-- R154: a CALL in RUNNING. -/
def callInRunning (l : LinkId) (post tram : Nat) (d : Desc) (y : Blocks) : Blocks :=
  if 31 < post ∨ 9999 < tram then answer l kCall rBadValue [] y
  else if d.postInUse post then
    if d.postKind post = 1 then callAtExit l d post tram y else callAtEntry l d post tram y
  else answer l kCall rNotFound [] y

/-- R154, R76: a CALL refused in QUIET raises CALL_IN_QUIET, naming post and tram. -/
def serveCall (l : LinkId) (post : Byte) (tram : Half) (d : Desc) (y : Blocks) : Blocks :=
  match y.mode with
  | .running => callInRunning l post.toNat tram.toNat d y
  | .quiet => wrongMode l kCall (alarm 12 (b1 post.toNat ++ b2 tram.toNat) y)
  | _ => wrongMode l kCall y

/-! ### Hold, resume, skip -/

/-- R156: the DISPATCHED entry goes back to CALLED, its tried mark clear. -/
def ProgEntry.recall (e : ProgEntry) : ProgEntry :=
  if e.state = .dispatched then { e with state := .called, tried := false } else e

/-- R156, R160: the hold flag is set. -/
def holdNow (y : Blocks) : Blocks :=
  if y.prog.hold then y
  else post .programme (b1 1)
    { y with prog := { y.prog with hold := true, entries := y.prog.entries.map ProgEntry.recall } }

/-- R156, R160: the hold flag is cleared, and the offer is judged at once. -/
def resumeNow (d : Desc) (y : Blocks) : Blocks :=
  if y.prog.hold then
    judgeOffer d (post .programme (b1 2) { y with prog := { y.prog with hold := false } })
  else y

def serveHold (l : LinkId) (_d : Desc) (y : Blocks) : Blocks :=
  inRunning l kHoldProgramme (fun y => answer l kHoldProgramme rDone [] (holdNow y)) y

def serveResume (l : LinkId) (d : Desc) (y : Blocks) : Blocks :=
  inRunning l kResumeProgramme (fun y => answer l kResumeProgramme rDone [] (resumeNow d y)) y

/-- R156: HOLD PROGRAMME as a broadcast, in RUNNING, without an answer. -/
def broadcastHold (_d : Desc) (y : Blocks) : Blocks := if y.mode = .running then holdNow y else y

/-- R157: PLANNED or CALLED. -/
def skippable (e : Option ProgEntry) : Bool :=
  match e with
  | some e => (e.state == .planned) || (e.state == .called)
  | none => false

/-- R157. -/
def serveSkip (l : LinkId) (movement : Half) (d : Desc) (y : Blocks) : Blocks :=
  inRunning l kSkipEntry (fun y =>
    if movement = 0 then answer l kSkipEntry rBadValue [] y
    else
      match findEntry (fun e => e.movement == movement.toNat) y with
      | none => answer l kSkipEntry rNotFound [] y
      | some i =>
        if skippable (y.prog.entries[i]?) then
          answer l kSkipEntry rDone [] (judgeOffer d (moveEntry i .skipped none none y))
        else answer l kSkipEntry rInUse [] y) y

/-! ### Loading the programme -/

/-- The kind of a request entry: ARRIVE 0, DEPART 1. -/
def itemKind (e : ProgItem) : EntryKind := if e.kind = 1 then .depart else .arrive

/-- R158 check 1. -/
def itemRange (e : ProgItem) : Bool :=
  decide (1 ≤ e.movement.toNat) && decide (e.kind.toNat ≤ 1) && decide (1 ≤ e.tram.toNat) &&
    decide (e.tram.toNat ≤ 9999) && decide (e.road.toNat ≤ 23) &&
    decide (e.definition.toNat ≤ 239) &&
    (decide (e.notBefore.toNat ≤ 1439) || decide (e.notBefore.toNat = 65535)) &&
    !(decide (e.kind = 0) && flagOf e.auto)

/-- R158 check 2. -/
def itemLoaded (d : Desc) (e : ProgItem) : Bool :=
  d.roadInUse e.road.toNat && d.rtLoaded e.definition.toNat

/-- R158 check 3. -/
def itemLeads (d : Desc) (e : ProgItem) : Bool :=
  match itemKind e with
  | .arrive => (d.route e.definition.toNat).dest == some e.road.toNat
  | .depart => (d.route e.definition.toNat).origin == some e.road.toNat

/-- R158 check 4, second half: a live instance carries the movement number. -/
def movementLive (y : Blocks) (n : Nat) : Bool :=
  slots24.any fun i =>
    match y.inst i with
    | some v => v.movement == some n
    | none => false

/-- R158 check 4, first half: the number appears twice in the request (log entry 19). -/
def movementTwice (items : List ProgItem) (n : Nat) : Bool :=
  decide (1 < (items.filter fun e => e.movement.toNat == n).length)

/-- R158 check 4. -/
def itemFresh (y : Blocks) (items : List ProgItem) (e : ProgItem) : Bool :=
  !(movementTwice items e.movement.toNat) && !(movementLive y e.movement.toNat)

/-- One check over the entries: the refusal with the place of the first failing entry. -/
def checkItems (ok : ProgItem → Bool) (code : Nat) (items : List ProgItem) : Option (List Byte) :=
  (items.findIdx? fun e => !(ok e)).map fun i => b1 code ++ b1 i

/-- R158: the count check and checks 1 to 4: the answer body of the refusal. -/
def progRefusal (d : Desc) (count : Nat) (items : List ProgItem) (y : Blocks) : Option (List Byte) :=
  if 11 < count ∨ count ≠ items.length then some (b1 rBadValue ++ o1 none)
  else
    [checkItems itemRange rBadValue items, checkItems (itemLoaded d) rNotFound items,
     checkItems (itemLeads d) rBadValue items, checkItems (itemFresh y items) rDuplicate items].findSome? id

/-- R158: an entry PLANNED, its tried mark clear, no outcome. -/
def progEntryOf (e : ProgItem) : ProgEntry where
  movement := e.movement.toNat
  kind := itemKind e
  tram := e.tram.toNat
  road := e.road.toNat
  definition := e.definition.toNat
  notBefore := if e.notBefore.toNat = 65535 then none else some e.notBefore.toNat
  auto := flagOf e.auto
  state := .planned
  tried := false
  outcome := none

/-- R149, R150: auto-departures, then the offer. -/
def judgeProgramme (d : Desc) (y : Blocks) : Blocks := judgeOffer d (autoDepart y)

/-- R158: the list is replaced. -/
def loadNow (d : Desc) (items : List ProgItem) (y : Blocks) : Blocks :=
  judgeProgramme d (post .programme (b1 3 ++ b1 items.length)
    { y with prog := { y.prog with entries := items.map progEntryOf } })

/-- R158. -/
def serveLoadProgramme (l : LinkId) (count : Byte) (items : List ProgItem) (d : Desc) (y : Blocks) :
    Blocks :=
  inRunning l kLoadProgramme (fun y =>
    if y.prog.entries.any fun e => (e.state == .dispatched) || (e.state == .running) then
      answer l kLoadProgramme rInUse [] y
    else
      match progRefusal d count.toNat items y with
      | some body => placeAnswer l kLoadProgramme body y
      | none => answer l kLoadProgramme rDone [] (loadNow d items y)) y

/-- R159: the list without the finished entries ahead of its first unfinished one. -/
def dropFinished (es : List ProgEntry) : List ProgEntry := es.dropWhile ProgEntry.finished

/-- R159: checks 5 and 6. -/
def appendRefusal (items : List ProgItem) (y : Blocks) : Option (List Byte) :=
  [checkItems (fun e => !(y.prog.entries.any fun x => x.movement == e.movement.toNat)) rDuplicate items,
   if Config.programmeCap < (dropFinished y.prog.entries).length + items.length then
     some (b1 rListFull) else none].findSome? id

/-- R159: the finished head is removed, and the entries are appended. -/
def appendNow (d : Desc) (items : List ProgItem) (y : Blocks) : Blocks :=
  let kept := dropFinished y.prog.entries
  judgeProgramme d (post .programme
    (b1 4 ++ b1 items.length ++ b1 (y.prog.entries.length - kept.length))
    { y with prog := { y.prog with entries := kept ++ items.map progEntryOf } })

/-- R159. -/
def serveAppend (l : LinkId) (count : Byte) (items : List ProgItem) (d : Desc) (y : Blocks) : Blocks :=
  inRunning l kAppendProgramme (fun y =>
    match [progRefusal d count.toNat items y, appendRefusal items y].findSome? id with
    | some body => placeAnswer l kAppendProgramme body y
    | none => answer l kAppendProgramme rDone [] (appendNow d items y)) y

/-! ### The yard clock -/

/-- R148 steps 1, 2 and 4. -/
def setClock (d : Desc) (minute : Nat) (y : Blocks) : Blocks :=
  judgeProgramme d
    { y with prog := { y.prog with clock := some minute, minuteTimer := some Config.minute } }

/-- R148. -/
def serveTime (l : LinkId) (minute : Half) (d : Desc) (y : Blocks) : Blocks :=
  match y.mode with
  | .unloaded | .loading => wrongMode l kTime y
  | _ =>
    if 1439 < minute.toNat then answer l kTime rBadValue [] y
    else answer l kTime rDone [] (setClock d minute.toNat y)

/-- R148, R24: TIME as a broadcast, without an answer. -/
def broadcastTime (minute : Half) (d : Desc) (y : Blocks) : Blocks :=
  match y.mode with
  | .unloaded | .loading => y
  | _ => if 1439 < minute.toNat then y else setClock d minute.toNat y

/-- R148: the minute timer expires. -/
def minuteExpiry (d : Desc) (y : Blocks) : Blocks :=
  match y.prog.clock, y.prog.minuteTimer with
  | some c, some _ => setClock d (if c = 1439 then 0 else c + 1) y
  | _, _ => y

/-! ### Commands -/

def execCall (l : LinkId) (post : Byte) (tram : Half) (s : State) : Host.Outcome State Fault Refusal :=
  .next (finish (takeRequest l kCall 3 (onBlocks (serveCall l post tram)) s))
def execHoldProgramme (l : LinkId) (broadcast : Bool) (s : State) : Host.Outcome State Fault Refusal :=
  .next (finish (if broadcast then takeBroadcast l kHoldProgramme 0 broadcastHold s
    else takeRequest l kHoldProgramme 0 (onBlocks (serveHold l)) s))
def execResumeProgramme (l : LinkId) (s : State) : Host.Outcome State Fault Refusal :=
  .next (finish (takeRequest l kResumeProgramme 0 (onBlocks (serveResume l)) s))
def execSkipEntry (l : LinkId) (movement : Half) (s : State) : Host.Outcome State Fault Refusal :=
  .next (finish (takeRequest l kSkipEntry 2 (onBlocks (serveSkip l movement)) s))
def execLoadProgramme (l : LinkId) (count : Byte) (items : List ProgItem) (s : State) :
    Host.Outcome State Fault Refusal :=
  .next (finish (takeRequest l kLoadProgramme (1 + 10 * items.length)
    (onBlocks (serveLoadProgramme l count items)) s))
def execAppendProgramme (l : LinkId) (count : Byte) (items : List ProgItem) (s : State) :
    Host.Outcome State Fault Refusal :=
  .next (finish (takeRequest l kAppendProgramme (1 + 10 * items.length)
    (onBlocks (serveAppend l count items)) s))
def execTime (l : LinkId) (broadcast : Bool) (minute : Half) (s : State) :
    Host.Outcome State Fault Refusal :=
  .next (finish (if broadcast then takeBroadcast l kTime 2 (broadcastTime minute) s
    else takeRequest l kTime 2 (onBlocks (serveTime l minute)) s))
def execMinuteTimerExpiry (s : State) : Host.Outcome State Fault Refusal :=
  .next (finish (yardEvent minuteExpiry s))

end Sys2Proof.Machine
end

