-- ==== Sys2Proof/Machine/Reads.lean ====
section
/-! DEFINITION. STATUS and the READ kinds (R181, R38, R65, R42, R123, R146, R160, R182,
R167). -/

namespace Sys2Proof.Machine

/-! ### STATUS -/

/-- The number of live instances. -/
def liveCount (y : Blocks) : Nat := (slots24.filter fun i => (y.inst i).isSome).length

/-- R181: the data of the STATUS answer, in its order. -/
def statusBody (d : Desc) (l : LinkId) (y : Blocks) : List Byte :=
  let u := y.link l
  b1 y.mode.code ++ flag d.inForce ++ o1 (y.ctl.loadingLink.map linkCode) ++
    b1 (flagSet u.flags (y.rep l).lost) ++ b1 (u.occupancy + 1) ++ b1 (y.rep l).queue.length ++
    flag u.active.isSome ++ flag u.staged.isSome ++
    b1 y.tst.g ++ o1 y.tst.pendingG ++ b1 y.tst.pointer ++ b1 y.tst.kind.code ++
    b1 (liveCount y) ++ b1 y.wait.length ++ flag y.prog.hold ++ o2 y.prog.clock ++
    b1 y.prog.entries.length

/-- R177: every flag of a link cleared. -/
def clearFlags (l : LinkId) (y : Blocks) : Blocks :=
  setRep l { y.rep l with lost := false } (setLink l { y.link l with flags := {} } y)

/-- R177, R181: STATUS answers the flags as they stand and clears them. -/
def serveStatus (l : LinkId) (d : Desc) (y : Blocks) : Blocks :=
  answer l kStatus rDone (statusBody d l y) (clearFlags l y)

/-! ### READ contents -/

/-- R38. -/
def sectionContent (d : Desc) (y : Blocks) (i : Nat) : Option (List Byte) :=
  if d.secInUse i then
    let v := y.sec i
    some (b1 (d.secKind i) ++ b1 (d.secArea i) ++ b1 (d.secInput i) ++ b1 v.occ.code ++
      b1 (levelCode v.level) ++ b1 (healthCode v.healthy) ++ o2 v.timer ++ o1 v.owner ++
      flag v.wasOccupied ++ flag v.releaseFault)
  else none

/-- The place of a point in the drive queue, counted from 0 (R182). -/
def queuePlace (y : Blocks) (i : Nat) : Option Nat := y.queue.findIdx? fun j => j == i

/-- R65. -/
def pointContent (d : Desc) (y : Blocks) (i : Nat) : Option (List Byte) :=
  if d.ptInUse i then
    let p := y.pt i
    some (b1 (d.ptSec i) ++ b1 (d.ptChannel i) ++ b1 p.strokeRef ++ flag p.learned ++ b1 p.count ++
      b1 (contactCode p.normalMade) ++ b1 (contactCode p.reverseMade) ++ b1 p.presented.code ++
      b1 p.computed.code ++ flag p.latch ++ b1 p.drive.code ++ o1 (p.target.map Position.code) ++
      o1 (p.phase.map LearnPhase.code) ++ o2 p.strokeTimer ++ o2 p.restTimer ++ o2 p.learnTimer ++
      o1 (queuePlace y i) ++ o1 p.routeOwner ++ o1 (p.routePos.map Position.code) ++
      b1 p.flankCount ++ o1 (p.flankPos.map Position.code) ++ flag p.blocked ++ flag p.underTest)
  else none

/-- R42. -/
def signalContent (d : Desc) (y : Blocks) (i : Nat) : Option (List Byte) :=
  if d.sigInUse i then
    some (b1 (d.sigKind i) ++ b1 (d.sigChannel i) ++ b1 (y.sig i).aspect.code ++ o1 (y.sig i).owner)
  else none

/-- R123: the exit signal of the definition, or the stop signal of a shortened instance. -/
def RouteInst.exitSignal (v : RouteInst) (d : Desc) : Option Nat :=
  match v.shortenedAt with
  | some g => some g
  | none => (d.route v.definition).exit

/-- R123. -/
def instanceContent (d : Desc) (y : Blocks) (i : Nat) : Option (List Byte) :=
  (y.inst i).map fun v =>
    b1 v.definition ++ b1 (linkCode v.link) ++ o2 v.tram ++ o1 v.key ++ o2 v.movement ++
      o1 v.shortenedAt ++ b1 v.state.code ++ flag v.approachLocked ++
      listField (v.unreleased.map b1) ++ b1 v.releaseIndex ++ o2 v.timer ++
      o1 (v.stallCause.map StallCause.code) ++ o1 (v.stallCause.map StallCause.element) ++
      b1 (v.entrance d) ++ o1 (v.exitSignal d) ++ flag (hasBeenEntered y v)

/-- R184: a stack record as read. -/
def recordBody (r : StackRecord × Nat) : List Byte :=
  b2 r.1.tram ++ b2 r.1.length ++ b1 r.1.state.code ++ b2 r.2

/-- R182: a cell as read. -/
def cellBody (c : CellView) : List Byte :=
  b1 c.sect ++ b1 c.occ.code ++ b1 c.expect.code ++ flag c.bad

/-- R146. -/
def roadContent (d : Desc) (y : Blocks) (i : Nat) : Option (List Byte) :=
  if d.roadInUse i then
    let r := y.road i
    some (b2 (d.roadL i) ++ b1 (d.roadB i) ++ b1 (d.roadG i) ++ b1 (d.roadT i) ++
      b1 r.status.code ++ o1 (r.phase.map ArrivalPhase.code) ++ flag r.declared ++
      o1 (r.timer.map (·.kind.code)) ++ o2 (r.timer.map (·.remaining)) ++
      listField ((placed d y i).map recordBody) ++ b2 (roadP d y i) ++ b2 (roadF d y i) ++
      listField ((roadCellViews d y i).map cellBody))
  else none

/-- R160.  DEDUCED (log entry 17): the outcome has the bytes that section 11.4 gives it in a PROGRAMME
report with cause ENTRY; for the answer the spec names none. -/
def entryContent (d : Desc) (y : Blocks) (i : Nat) : Option (List Byte) :=
  (y.prog.entries[i]?).map fun e =>
    b2 e.movement ++ b1 e.kind.code ++ b2 e.tram ++ b1 e.road ++ b1 e.definition ++
      o2 e.notBefore ++ flag e.auto ++ b1 e.state.code ++ flag e.tried ++
      outcomeBody e.outcome ++ flag (eligible d.window y.prog.entries i) ++
      flag (e.met y.prog.clock)

/-- R182; the flags as in the SET ROUTE body: STORE bit 0, STOP_SHORT bit 1. -/
def waitingContent (y : Blocks) (i : Nat) : Option (List Byte) :=
  (y.wait[i]?).map fun e =>
    b1 e.definition ++ b1 (linkCode e.link) ++ b1 e.origin.code ++
      b1 (if e.stopShort then 3 else 1) ++ b1 e.key ++ b2 e.tram ++ flag e.tried ++ b2 e.life

/-- R167. -/
def areaContent (d : Desc) (y : Blocks) (a : Nat) : Option (List Byte) :=
  let v := y.area a
  some (b1 v.status.code ++ b1 v.key ++ b1 (d.areaSecs a).length ++ b1 (d.areaPts a).length ++
    b1 ((d.areaSecs a).filter fun i => (y.sec i).owner.isSome).length ++
    b1 ((d.areaPts a).filter fun i => (y.pt i).busy).length ++ flag (grantCondition d y a))

/-! ### Owners -/

def serveSection (l : LinkId) (i : Byte) (d : Desc) (y : Blocks) : Blocks :=
  serveRead l kReadSection 95 i.toNat (sectionContent d y i.toNat) d y
def servePoint (l : LinkId) (i : Byte) (d : Desc) (y : Blocks) : Blocks :=
  serveRead l kReadPoint 47 i.toNat (pointContent d y i.toNat) d y
def serveSignal (l : LinkId) (i : Byte) (d : Desc) (y : Blocks) : Blocks :=
  serveRead l kReadSignal 63 i.toNat (signalContent d y i.toNat) d y
def serveInstance (l : LinkId) (i : Byte) (d : Desc) (y : Blocks) : Blocks :=
  serveRead l kReadInstance 23 i.toNat (instanceContent d y i.toNat) d y
def serveRoad (l : LinkId) (i : Byte) (d : Desc) (y : Blocks) : Blocks :=
  serveRead l kReadRoad 23 i.toNat (roadContent d y i.toNat) d y
def serveEntry (l : LinkId) (i : Byte) (d : Desc) (y : Blocks) : Blocks :=
  serveRead l kReadEntry 63 i.toNat (entryContent d y i.toNat) d y
def serveWaiting (l : LinkId) (i : Byte) (d : Desc) (y : Blocks) : Blocks :=
  serveRead l kReadWaiting 15 i.toNat (waitingContent y i.toNat) d y
def serveArea (l : LinkId) (i : Byte) (d : Desc) (y : Blocks) : Blocks :=
  serveRead l kReadArea 7 i.toNat (areaContent d y i.toNat) d y

/-! ### Commands -/

def execStatus (l : LinkId) (s : State) : Host.Outcome State Fault Refusal :=
  .next (finish (takeRequest l kStatus 0 (onBlocks (serveStatus l)) s))
def execReadSection (l : LinkId) (i : Byte) (s : State) : Host.Outcome State Fault Refusal :=
  .next (finish (takeRequest l kReadSection 1 (onBlocks (serveSection l i)) s))
def execReadPoint (l : LinkId) (i : Byte) (s : State) : Host.Outcome State Fault Refusal :=
  .next (finish (takeRequest l kReadPoint 1 (onBlocks (servePoint l i)) s))
def execReadSignal (l : LinkId) (i : Byte) (s : State) : Host.Outcome State Fault Refusal :=
  .next (finish (takeRequest l kReadSignal 1 (onBlocks (serveSignal l i)) s))
def execReadInstance (l : LinkId) (i : Byte) (s : State) : Host.Outcome State Fault Refusal :=
  .next (finish (takeRequest l kReadInstance 1 (onBlocks (serveInstance l i)) s))
def execReadRoad (l : LinkId) (i : Byte) (s : State) : Host.Outcome State Fault Refusal :=
  .next (finish (takeRequest l kReadRoad 1 (onBlocks (serveRoad l i)) s))
def execReadEntry (l : LinkId) (i : Byte) (s : State) : Host.Outcome State Fault Refusal :=
  .next (finish (takeRequest l kReadEntry 1 (onBlocks (serveEntry l i)) s))
def execReadWaiting (l : LinkId) (i : Byte) (s : State) : Host.Outcome State Fault Refusal :=
  .next (finish (takeRequest l kReadWaiting 1 (onBlocks (serveWaiting l i)) s))
def execReadArea (l : LinkId) (i : Byte) (s : State) : Host.Outcome State Fault Refusal :=
  .next (finish (takeRequest l kReadArea 1 (onBlocks (serveArea l i)) s))

end Sys2Proof.Machine
end

