-- ==== Sys2Proof/Machine/RoadRequests.lean ====
section
/-! DEFINITION. DECLARE, CONFIRM, BLOCK and UNBLOCK ROAD (R139 to R142), LOAD FLEET (R127) and
the road timers (R133, R136). -/

namespace Sys2Proof.Machine

/-- Section 7.7: BAD_VALUE above 23, NOT_FOUND for a record not in use. -/
def onRoad (l : LinkId) (kind r : Byte) (op : Desc → Nat → Blocks → Blocks) (d : Desc) (y : Blocks) :
    Blocks :=
  inRunning l kind (fun y =>
    if 23 < r.toNat then answer l kind rBadValue [] y
    else if d.roadInUse r.toNat then op d r.toNat y
    else answer l kind rNotFound [] y) y

/-! ### DECLARE ROAD -/

/-- A list with an entry twice. -/
def repeats : List Nat → Bool
  | [] => false
  | a :: rest => rest.contains a || repeats rest

/-- R139 check 4, second half: a tram stands in a record of a road other than i. -/
def standsElsewhere (d : Desc) (y : Blocks) (i tram : Nat) : Bool :=
  (List.range 24).any fun j =>
    (j != i) && d.roadInUse j && (y.road j).stack.any fun r => r.tram == tram

/-- R139: the lengths of the records a declaration makes. -/
def declaredLengths (d : Desc) (y : Blocks) (trams : List Nat) : List Nat := trams.map (tramLength d y)

/-- R139: the checks, in order. -/
def declareRefusal (d : Desc) (i count : Nat) (trams : List Nat) (y : Blocks) : Option Nat :=
  let r := y.road i
  if 8 < count ∨ count ≠ trams.length ∨ (trams.any fun t => decide (9999 < t)) = true then
    some rBadValue
  else if r.status = .arriving ∨ r.status = .departing then some rInUse
  else if y.secBusy (d.roadMouth i) then some rOccupied
  else if repeats (trams.filter (· != 0)) ||
      (trams.filter (· != 0)).any (standsElsewhere d y i) then some rDuplicate
  else if overruns (d.roadG i) (d.roadL i) (d.roadB i) (declaredLengths d y trams) then some rNoFit
  else none

/-- R139: a declaration is accepted. -/
def declareNow (d : Desc) (i : Nat) (trams : List Nat) (y : Blocks) : Blocks :=
  let r := y.road i
  let blocked := r.status == .blocked
  let y := setRoad i { r with
    stack := trams.map fun t => ⟨t, tramLength d y t, .stabled⟩
    declared := true
    status := if blocked then .blocked else .idle
    timer := none } y
  let y := trams.foldl (fun y t => alarmUnlisted d i t y) y
  let y := roadReport d cRoadDeclared i [] y
  if blocked then y else enterIdle d i y

def serveDeclare (l : LinkId) (r count : Byte) (trams : List Half) : Desc → Blocks → Blocks :=
  onRoad l kDeclareRoad r fun d i y =>
    match declareRefusal d i count.toNat (trams.map (·.toNat)) y with
    | some code => answer l kDeclareRoad code [] y
    | none => answer l kDeclareRoad rDone [] (declareNow d i (trams.map (·.toNat)) y)

/-! ### CONFIRM, BLOCK, UNBLOCK -/

/-- R140. -/
def confirmNow (d : Desc) (i : Nat) (y : Blocks) : Blocks :=
  enterIdle d i (roadReport d cRoadConfirmed i [] (setRoad i { y.road i with status := .idle } y))

def serveConfirm (l : LinkId) (r : Byte) : Desc → Blocks → Blocks :=
  onRoad l kConfirmRoad r fun d i y =>
    if (y.road i).status = .disagree then
      if y.secBusy (d.roadMouth i) then answer l kConfirmRoad rOccupied [] y
      else answer l kConfirmRoad rDone [] (confirmNow d i y)
    else answer l kConfirmRoad rInUse [] y

/-- R141. -/
def blockRoadNow (d : Desc) (i : Nat) (y : Blocks) : Blocks :=
  if (y.road i).status = .blocked then y
  else roadReport d cRoadBlocked i []
    (setRoad i { y.road i with status := .blocked, timer := none } y)

def serveBlockRoad (l : LinkId) (r : Byte) : Desc → Blocks → Blocks :=
  onRoad l kBlockRoad r fun d i y =>
    match (y.road i).status with
    | .arriving | .departing => answer l kBlockRoad rInUse [] y
    | _ => answer l kBlockRoad rDone [] (blockRoadNow d i y)

/-- R142. -/
def unblockRoadNow (d : Desc) (i : Nat) (y : Blocks) : Blocks :=
  let r := y.road i
  if r.status = .blocked then
    if r.declared then
      enterIdle d i (roadReport d cRoadUnblocked i [] (setRoad i { r with status := .idle } y))
    else roadReport d cRoadUnblocked i [] (setRoad i { r with status := .unknown } y)
  else y

def serveUnblockRoad (l : LinkId) (r : Byte) : Desc → Blocks → Blocks :=
  onRoad l kUnblockRoad r fun d i y =>
    answer l kUnblockRoad rDone [] (unblockRoadNow d i y)

/-! ### LOAD FLEET -/

/-- R127: a fleet entry's values. -/
def fleetItemOk (e : FleetItem) : Bool :=
  decide (1 ≤ e.tram.toNat) && decide (e.tram.toNat ≤ 9999) && decide (800 ≤ e.lengthCm.toNat) &&
    decide (e.lengthCm.toNat ≤ 7000)

/-- The fleet entry of an item. -/
def fleetEntryOf (e : FleetItem) : FleetEntry := ⟨e.tram.toNat, e.lengthCm.toNat⟩

/-- R127: one entry added to a table, or its length replaced. -/
def fleetPut (t : List FleetEntry) (e : FleetEntry) : List FleetEntry :=
  if t.any fun x => x.tram == e.tram then t.map fun x => if x.tram = e.tram then e else x
  else t ++ [e]

/-- R127: the table after the load. -/
def fleetAfter (manner : Nat) (items : List FleetItem) (t : List FleetEntry) : List FleetEntry :=
  (items.map fleetEntryOf).foldl fleetPut (if manner = 0 then [] else t)

/-- R127: the checks, in order. -/
def fleetRefusal (manner count : Nat) (items : List FleetItem) (y : Blocks) : Option Nat :=
  if 1 < manner ∨ 29 < count ∨ count ≠ items.length ∨ items.all fleetItemOk = false then
    some rBadValue
  else if repeats (items.map (·.tram.toNat)) then some rDuplicate
  else if Config.fleetCap < (fleetAfter manner items y.fleet).length then some rListFull
  else none

/-- R127. -/
def serveFleet (l : LinkId) (manner count : Byte) (items : List FleetItem) (_d : Desc) (y : Blocks) :
    Blocks :=
  inRunning l kLoadFleet (fun y =>
    match fleetRefusal manner.toNat count.toNat items y with
    | some code => answer l kLoadFleet code [] y
    | none =>
      answer l kLoadFleet rDone [] { y with fleet := fleetAfter manner.toNat items y.fleet }) y

/-! ### Commands -/

def execDeclareRoad (l : LinkId) (r count : Byte) (trams : List Half) (s : State) :
    Host.Outcome State Fault Refusal :=
  .next (finish (takeRequest l kDeclareRoad (2 + 2 * trams.length)
    (onBlocks (serveDeclare l r count trams)) s))
def execConfirmRoad (l : LinkId) (r : Byte) (s : State) : Host.Outcome State Fault Refusal :=
  .next (finish (takeRequest l kConfirmRoad 1 (onBlocks (serveConfirm l r)) s))
def execBlockRoad (l : LinkId) (r : Byte) (s : State) : Host.Outcome State Fault Refusal :=
  .next (finish (takeRequest l kBlockRoad 1 (onBlocks (serveBlockRoad l r)) s))
def execUnblockRoad (l : LinkId) (r : Byte) (s : State) : Host.Outcome State Fault Refusal :=
  .next (finish (takeRequest l kUnblockRoad 1 (onBlocks (serveUnblockRoad l r)) s))
def execLoadFleet (l : LinkId) (manner count : Byte) (items : List FleetItem) (s : State) :
    Host.Outcome State Fault Refusal :=
  .next (finish (takeRequest l kLoadFleet (2 + 4 * items.length)
    (onBlocks (serveFleet l manner count items)) s))
def execHoldTimerExpiry (i : Nat) (s : State) : Host.Outcome State Fault Refusal :=
  .next (finish (yardEvent (fun d y => holdExpiry d i y) s))
def execArriveTimerExpiry (i : Nat) (s : State) : Host.Outcome State Fault Refusal :=
  .next (finish (yardEvent (fun d y => arriveExpiry d i y) s))

end Sys2Proof.Machine
end

