-- ==== Sys2Proof/Machine/Links.lean ====
section
/-! DEFINITION. The receive side of a station link (R171), the hand-over of a whole frame to
its owner (R172, Table 27), the line break (R176) and the end of a transmission (R173). -/

namespace Sys2Proof.Machine

/-! ### Owners by kind and body -/

/-- Table 27: the owner that takes a request of this kind and body.  The link unit has checked
the kind and LEN (R172); a pair outside the catalogue reaches no owner. -/
def requestOwner (l : LinkId) (kind : Byte) (body : List Byte) : State → State :=
  match kind.toNat, body with
  | 0x01, _ => onBlocks (serveStatus l)
  | 0x02, [i] => onBlocks (serveSection l i)
  | 0x03, [i] => onBlocks (servePoint l i)
  | 0x04, [i] => onBlocks (serveSignal l i)
  | 0x05, [i] => onBlocks (serveInstance l i)
  | 0x06, [i] => onBlocks (serveRoad l i)
  | 0x07, [i] => onBlocks (serveEntry l i)
  | 0x08, [i] => onBlocks (serveWaiting l i)
  | 0x09, [i] => onBlocks (serveArea l i)
  | 0x10, _ => takeOpenLoad l
  | 0x11, table :: lo :: hi :: data => takeLoadBlock l table (halfOf lo hi) data
  | 0x12, _ => takeCloseLoad l
  | 0x20, [definition, flags, key, t0, t1, reserved] =>
    onBlocks (serveSetRoute l definition flags key (halfOf t0 t1) reserved)
  | 0x21, [g] => onBlocks (serveCancel l g)
  | 0x22, [g] => onBlocks (serveHandRelease l g)
  | 0x23, [g] => onBlocks (serveRetry l g)
  | 0x24, [definition] => onBlocks (serveWithdraw l definition)
  | 0x30, [p, position] => onBlocks (serveDrive l p position)
  | 0x31, [p] => onBlocks (serveBlock l p)
  | 0x32, [p] => onBlocks (serveUnblock l p)
  | 0x33, [p] => onBlocks (serveLearn l p)
  | 0x40, [a, key] => onBlocks (servePossess l a key)
  | 0x41, [a] => onBlocks (serveEndPossession l a)
  | 0x50, r :: count :: trams => onBlocks (serveDeclare l r count (halvesOf trams))
  | 0x51, [r] => onBlocks (serveBlockRoad l r)
  | 0x52, [r] => onBlocks (serveUnblockRoad l r)
  | 0x53, [r] => onBlocks (serveConfirm l r)
  | 0x54, manner :: count :: items => onBlocks (serveFleet l manner count (fleetOf items))
  | 0x60, count :: items => onBlocks (serveLoadProgramme l count (progOf items))
  | 0x61, count :: items => onBlocks (serveAppend l count (progOf items))
  | 0x62, [m0, m1] => onBlocks (serveSkip l (halfOf m0 m1))
  | 0x63, _ => onBlocks (serveHold l)
  | 0x64, _ => onBlocks (serveResume l)
  | 0x70, [post, t0, t1] => onBlocks (serveCall l post (halfOf t0 t1))
  | 0x78, [g] => onBlocks (serveGranularity l g)
  | 0x79, _ => onBlocks (serveEnterQuiet l)
  | 0x7A, _ => onBlocks (serveWake l)
  | 0x7F, [m0, m1] => onBlocks (serveTime l (halfOf m0 m1))
  | _, _ => fun s => s

/-- R172: a broadcast frame is carried out for TIME and HOLD PROGRAMME, and discarded
otherwise. -/
def takeBroadcastFrame (l : LinkId) (kind : Byte) (body : List Byte) : State → State :=
  match kind.toNat, body with
  | 0x7F, [m0, m1] => takeBroadcast l kTime 2 (broadcastTime (halfOf m0 m1))
  | 0x63, [] => takeBroadcast l kHoldProgramme 0 broadcastHold
  | _, _ => takeBroadcast l kind body.length fun _ y => y

/-- R172: a whole frame. -/
def takeFrame (l : LinkId) (broadcast : Bool) (kind : Byte) (body : List Byte) (s : State) : State :=
  if broadcast then takeBroadcastFrame l kind body s
  else takeRequest l kind body.length (requestOwner l kind body) s

/-! ### Reception (R171) -/

/-- R171: a reception fault discards the partial frame, stops the gap timer and sets a flag. -/
def rxFault (l : LinkId) (f : RxFault) (y : Blocks) : Blocks :=
  setLink l { y.link l with
    rx := .hunt, buf := [], gapRunning := false, flags := (y.link l).flags.raise f } y

/-- R171: a flag set, nothing else. -/
def raiseFlag (l : LinkId) (f : RxFault) (y : Blocks) : Blocks :=
  setLink l { y.link l with flags := (y.link l).flags.raise f } y

/-- R169, R171: the unit's own address, or 127. -/
def ownAddress (y : Blocks) (a : Byte) : Bool :=
  (a == 127) || (y.addressed && (a == y.ctl.addr.setWidth 8))

/-- R171: an address character outside BREAK: a partial frame is abandoned; a frame starts, or
the receive state becomes IGNORE. -/
def takeAddress (l : LinkId) (a : Byte) (y : Blocks) : Blocks :=
  let y := if (y.link l).rx = .assemble then raiseFlag l .abandoned y else y
  if ownAddress y a then
    setLink l { y.link l with rx := .assemble, buf := [], broadcast := a == 127, gapRunning := true } y
  else setLink l { y.link l with rx := .ignore, buf := [], gapRunning := false } y

/-- R170: the sum of KIND, LEN, the body and CHECK modulo 256. -/
def frameSum (chars : List Byte) : Byte := chars.foldl (fun acc b => acc + b) 0

/-- R170, R171: the frame whose characters after ADDR are complete. -/
def completeFrame (l : LinkId) (chars : List Byte) (s : State) : State :=
  match chars with
  | kind :: len :: rest =>
    if frameSum chars = 0 then
      takeFrame l (s.blk.link l).broadcast kind (rest.take len.toNat)
        (onBlocks (fun _ y => endFrame l y) s)
    else onBlocks (fun _ y => rxFault l .check y) s
  | _ => s

/-- R171: a data character in ASSEMBLE is appended; the gap timer restarts. -/
def appendChar (l : LinkId) (b : Byte) (s : State) : State :=
  let chars := (s.blk.link l).buf ++ [b]
  let grown := onBlocks (fun _ y => setLink l { y.link l with buf := chars, gapRunning := true } y) s
  match chars with
  | _ :: len :: rest =>
    if 120 < len.toNat then onBlocks (fun _ y => rxFault l .length y) s
    else if rest.length = len.toNat + 1 then completeFrame l chars grown
    else grown
  | _ => grown

/-- R171: a received character. -/
def takeCharacter (l : LinkId) (c : Char9) (s : State) : State :=
  match (s.blk.link l).rx with
  | .inBreak => s
  | rx =>
    if c.getLsbD 8 then onBlocks (fun _ y => takeAddress l (c.setWidth 8) y) s
    else if rx = .assemble then appendChar l (c.setWidth 8) s
    else s

/-- R171: a character whose stop bit reads space. -/
def takeFramingError (l : LinkId) (y : Blocks) : Blocks :=
  match (y.link l).rx with
  | .hunt => raiseFlag l .framing y
  | .assemble => rxFault l .framing y
  | _ => y

/-- R171: the gap timer expires. -/
def gapExpiry (l : LinkId) (y : Blocks) : Blocks :=
  if (y.link l).rx = .assemble ∧ (y.link l).gapRunning = true then rxFault l .gap y else y

/-! ### Line break (R176) and transmission (R173) -/

/-- R176 steps 1 to 6: the link unit is emptied; rate, role, areas and subscription stay. -/
def emptyLink (l : LinkId) (y : Blocks) : Blocks :=
  let u := y.link l
  setRep l {} (setLink l
    { rx := .inBreak, rate := u.rate, role := u.role, areas := u.areas,
      subscription := u.subscription } y)

/-- R176, R23: a line break on a link that is not in BREAK. -/
def takeLineBreak (l : LinkId) (s : State) : State :=
  if (s.blk.link l).rx = .inBreak then s
  else
    let s := onBlocks (fun _ y => emptyLink l y) s
    if s.blk.mode = .loading ∧ s.blk.ctl.loadingLink = some l then abandonLoad s else s

/-- R176: the receive line of a link in BREAK returns to mark. -/
def returnToMark (l : LinkId) (y : Blocks) : Blocks :=
  if (y.link l).rx = .inBreak then setLink l { y.link l with rx := .hunt } y else y

/-- R173: the frame on the line ends: a sent answer leaves the buffer, and the transmitter is
idle.  The end of the step starts the next frame (log entry 9). -/
def frameSent (l : LinkId) (y : Blocks) : Blocks :=
  match (y.link l).tx with
  | .idle => y
  | .answer _ => setLink l { y.link l with answers := (y.link l).answers.drop 1, tx := .idle } y
  | .report _ => setLink l { y.link l with tx := .idle } y

/-- R172: a whole frame whose kind is not in the catalogue.  A kind of the catalogue spells
another row: no effect (log entry 7). -/
def unknownKind (l : LinkId) (broadcast : Bool) (kind : Byte) (s : State) : State :=
  if (catRow kind).isSome then s else takeFrame l broadcast kind [] s

/-! ### Commands -/

def execLineBreak (l : LinkId) (s : State) : Host.Outcome State Fault Refusal :=
  .next (finish (takeLineBreak l s))
def execLineReturnToMark (l : LinkId) (s : State) : Host.Outcome State Fault Refusal :=
  .next (finish (onBlocks (fun _ y => returnToMark l y) s))
def execCharacterReceived (l : LinkId) (c : Char9) (s : State) : Host.Outcome State Fault Refusal :=
  .next (finish (takeCharacter l c s))
def execFramingError (l : LinkId) (s : State) : Host.Outcome State Fault Refusal :=
  .next (finish (onBlocks (fun _ y => takeFramingError l y) s))
def execGapTimerExpiry (l : LinkId) (s : State) : Host.Outcome State Fault Refusal :=
  .next (finish (onBlocks (fun _ y => gapExpiry l y) s))
def execUnknownKindFrame (l : LinkId) (broadcast : Bool) (kind : Byte) (s : State) :
    Host.Outcome State Fault Refusal :=
  .next (finish (unknownKind l broadcast kind s))
def execFrameSent (l : LinkId) (s : State) : Host.Outcome State Fault Refusal :=
  .next (finish (onBlocks (fun _ y => frameSent l y) s))

end Sys2Proof.Machine
end

