-- ==== Sys2Proof/Machine/SectionEvents.lean ====
section
/-! DEFINITION. The events of the field inputs (R27 to R32) and the clear timer (R30) as
commands. -/

namespace Sys2Proof.Machine

/-- R27: the level input n presents. -/
def Pins.level (p : Pins) (n : Nat) (v : Level) : Pins :=
  { p with inputs := tabSet p.inputs n { tabGet p.inputs {} n with level := v } }

/-- R27: input n loses health. -/
def Pins.fault (p : Pins) (n : Nat) : Pins :=
  { p with inputs := tabSet p.inputs n { tabGet p.inputs {} n with healthy := false } }

/-- R27: input n regains health with a level. -/
def Pins.recover (p : Pins) (n : Nat) (v : Level) : Pins :=
  { p with inputs := tabSet p.inputs n { level := v, healthy := true } }

/-- R30, R26: the clear timer of section i expires. -/
def clearTimerEvent (d : Desc) (i : Nat) (y : Blocks) : Blocks := judgeSettled d (clearExpiry d i y)

def execInputOccupied (n : Nat) (s : State) : Host.Outcome State Fault Refusal :=
  .next (finish (onBlocks (fun d y => inputEvent d n (fun i y => takeLevel d i .occupied y) y)
    { s with pins := s.pins.level n .occupied }))
def execInputClear (n : Nat) (s : State) : Host.Outcome State Fault Refusal :=
  .next (finish (onBlocks (fun d y => inputEvent d n (fun i y => takeLevel d i .clear y) y)
    { s with pins := s.pins.level n .clear }))
def execHealthFault (n : Nat) (s : State) : Host.Outcome State Fault Refusal :=
  .next (finish (onBlocks (fun d y => inputEvent d n (fun i y => takeFault d i y) y)
    { s with pins := s.pins.fault n }))
def execHealthReturn (n : Nat) (v : Level) (s : State) : Host.Outcome State Fault Refusal :=
  .next (finish (onBlocks (fun d y => inputEvent d n (fun i y => takeReturn d i v y) y)
    { s with pins := s.pins.recover n v }))
def execClearTimerExpiry (i : Nat) (s : State) : Host.Outcome State Fault Refusal :=
  .next (finish (yardEvent (fun d y => clearTimerEvent d i y) s))

end Sys2Proof.Machine
end

