-- ==== Sys2Proof/Machine/Dispatch.lean ====
section
/-! DEFINITION. One arm per command of the opcode table: its meaning. -/

namespace Sys2Proof.Machine

def exec (i : Instr) (s : State) : Host.Outcome State Fault Refusal :=
  match i with
  | .powerOnReset addr rateA rateB rateC => Sys2Proof.Machine.execPowerOnReset addr rateA rateB rateC s
  | .lineBreak link => Sys2Proof.Machine.execLineBreak link s
  | .lineReturnToMark link => Sys2Proof.Machine.execLineReturnToMark link s
  | .characterReceived link char => Sys2Proof.Machine.execCharacterReceived link char s
  | .framingError link => Sys2Proof.Machine.execFramingError link s
  | .gapTimerExpiry link => Sys2Proof.Machine.execGapTimerExpiry link s
  | .unknownKindFrame link broadcast kind => Sys2Proof.Machine.execUnknownKindFrame link broadcast kind s
  | .frameSent link => Sys2Proof.Machine.execFrameSent link s
  | .status link => Sys2Proof.Machine.execStatus link s
  | .readSection link sect => Sys2Proof.Machine.execReadSection link sect s
  | .readPoint link point => Sys2Proof.Machine.execReadPoint link point s
  | .readSignal link signal => Sys2Proof.Machine.execReadSignal link signal s
  | .readInstance link slot => Sys2Proof.Machine.execReadInstance link slot s
  | .readRoad link road => Sys2Proof.Machine.execReadRoad link road s
  | .readEntry link place => Sys2Proof.Machine.execReadEntry link place s
  | .readWaiting link place => Sys2Proof.Machine.execReadWaiting link place s
  | .readArea link area => Sys2Proof.Machine.execReadArea link area s
  | .openLoad link => Sys2Proof.Machine.execOpenLoad link s
  | .loadBlock link table offset data => Sys2Proof.Machine.execLoadBlock link table offset data s
  | .closeLoad link => Sys2Proof.Machine.execCloseLoad link s
  | .loadIdleTimerExpiry => Sys2Proof.Machine.execLoadIdleTimerExpiry s
  | .setRoute link definition flags key tram reserved => Sys2Proof.Machine.execSetRoute link definition flags key tram reserved s
  | .cancelRoute link signal => Sys2Proof.Machine.execCancelRoute link signal s
  | .handRelease link signal => Sys2Proof.Machine.execHandRelease link signal s
  | .retryRoute link signal => Sys2Proof.Machine.execRetryRoute link signal s
  | .withdraw link definition => Sys2Proof.Machine.execWithdraw link definition s
  | .walkGrant => Sys2Proof.Machine.execWalkGrant s
  | .lifeTimerExpiry definition => Sys2Proof.Machine.execLifeTimerExpiry definition s
  | .inputOccupied input => Sys2Proof.Machine.execInputOccupied input s
  | .inputClear input => Sys2Proof.Machine.execInputClear input s
  | .healthFault input => Sys2Proof.Machine.execHealthFault input s
  | .healthReturn input level => Sys2Proof.Machine.execHealthReturn input level s
  | .clearTimerExpiry sect => Sys2Proof.Machine.execClearTimerExpiry sect s
  | .approachTimerExpiry slot => Sys2Proof.Machine.execApproachTimerExpiry slot s
  | .handReleaseTimerExpiry slot => Sys2Proof.Machine.execHandReleaseTimerExpiry slot s
  | .phaseReport channel levelA levelB => Sys2Proof.Machine.execPhaseReport channel levelA levelB s
  | .contactReport channel normalMade reverseMade => Sys2Proof.Machine.execContactReport channel normalMade reverseMade s
  | .driveTimeout point => Sys2Proof.Machine.execDriveTimeout point s
  | .restTimerExpiry point => Sys2Proof.Machine.execRestTimerExpiry point s
  | .drivePoint link point position => Sys2Proof.Machine.execDrivePoint link point position s
  | .blockPoint link point => Sys2Proof.Machine.execBlockPoint link point s
  | .unblockPoint link point => Sys2Proof.Machine.execUnblockPoint link point s
  | .learnPoint link point => Sys2Proof.Machine.execLearnPoint link point s
  | .settleTimerExpiry point => Sys2Proof.Machine.execSettleTimerExpiry point s
  | .learningTimerExpiry point => Sys2Proof.Machine.execLearningTimerExpiry point s
  | .testOutcomeReport channel outcome => Sys2Proof.Machine.execTestOutcomeReport channel outcome s
  | .intervalTimerExpiry => Sys2Proof.Machine.execIntervalTimerExpiry s
  | .stepTimerExpiry => Sys2Proof.Machine.execStepTimerExpiry s
  | .setGranularity link granularity => Sys2Proof.Machine.execSetGranularity link granularity s
  | .enterQuiet link => Sys2Proof.Machine.execEnterQuiet link s
  | .wake link => Sys2Proof.Machine.execWake link s
  | .possessArea link area key => Sys2Proof.Machine.execPossessArea link area key s
  | .endPossession link area => Sys2Proof.Machine.execEndPossession link area s
  | .declareRoad link road count trams => Sys2Proof.Machine.execDeclareRoad link road count trams s
  | .confirmRoad link road => Sys2Proof.Machine.execConfirmRoad link road s
  | .blockRoad link road => Sys2Proof.Machine.execBlockRoad link road s
  | .unblockRoad link road => Sys2Proof.Machine.execUnblockRoad link road s
  | .loadFleet link manner count items => Sys2Proof.Machine.execLoadFleet link manner count items s
  | .holdTimerExpiry road => Sys2Proof.Machine.execHoldTimerExpiry road s
  | .arriveTimerExpiry road => Sys2Proof.Machine.execArriveTimerExpiry road s
  | .call link post tram => Sys2Proof.Machine.execCall link post tram s
  | .holdProgramme link broadcast => Sys2Proof.Machine.execHoldProgramme link broadcast s
  | .resumeProgramme link => Sys2Proof.Machine.execResumeProgramme link s
  | .skipEntry link movement => Sys2Proof.Machine.execSkipEntry link movement s
  | .loadProgramme link count items => Sys2Proof.Machine.execLoadProgramme link count items s
  | .appendProgramme link count items => Sys2Proof.Machine.execAppendProgramme link count items s
  | .time link broadcast minute => Sys2Proof.Machine.execTime link broadcast minute s
  | .minuteTimerExpiry => Sys2Proof.Machine.execMinuteTimerExpiry s

end Sys2Proof.Machine
end

