-- ==== Sys2Proof/Safety.lean ====
section
/-! DEFINITION. The vocabulary of the statements: the invariants of the machine, what a step
leaves on the links, what it leaves in the yard, and the request rows by kind and body. -/

namespace Sys2Proof.Machine

/-! ### Invariants -/

/-- Table 14: the modes in which a description is in force. -/
def Mode.inForce : Mode → Bool
  | .unloaded | .loading => false
  | .proving | .running | .quiet | .waking => true

/-- The description memory is in its canonical form. -/
def DescCanonical (s : State) : Prop := Memory.wf s.desc.mem = true

/-- Table 14: a description is in force exactly in PROVING, RUNNING, QUIET and WAKING. -/
def ForceMatchesMode (s : State) : Prop := s.desc.inForce = s.blk.mode.inForce

/-- Slots of a link that hold a request. -/
def LinkUnit.slotsFull (u : LinkUnit) : Nat := u.active.toList.length + u.staged.toList.length

/-- R81, R168, R173: a link's reserved places are those of its full slots, a staged request
stands behind an active one, and the occupancy is at most 4. -/
def LinkUnit.sound (u : LinkUnit) : Prop :=
  u.reserved = u.slotsFull ∧ (u.staged.isSome = true → u.active.isSome = true) ∧ u.occupancy ≤ 4

/-- R168: every link's answer buffer is sound. -/
def AnswersBounded (s : State) : Prop := ∀ l, (s.blk.link l).sound

/-! ### Links -/

/-- A link unit less its transmitter and hold-off line, which the end of a step judges. -/
def LinkUnit.still (u : LinkUnit) : LinkUnit := { u with tx := .idle, holdOff := false }

/-- R171: a link unit after a whole frame. -/
def LinkUnit.ended (u : LinkUnit) : LinkUnit := { u with rx := .hunt, buf := [], gapRunning := false }

/-- R169, R176: link l takes frames: it is not in BREAK, and the unit has an address. -/
def Hears (s : State) (l : LinkId) : Prop :=
  (s.blk.link l).rx ≠ .inBreak ∧ s.blk.addressed = true

/-- R172: link l takes an individual request of this kind: occupancy below 4, and, while a
description is in force, a role that Table 27 permits. -/
def CanSend (s : State) (l : LinkId) (kind : Byte) : Prop :=
  Hears s l ∧ (s.blk.link l).occupancy < 4 ∧
    ∀ r, catRow kind = some r → s.desc.inForce = true → r.permits (s.blk.link l).role = true

/-- From s to t the link units are as before, but that link l, its frame ended, is changed by
f; transmitters and hold-off lines aside. -/
def LinkMoves (s t : State) (l : LinkId) (f : LinkUnit → LinkUnit) : Prop :=
  ∀ k, (t.blk.link k).still =
    if k = l then f (s.blk.link l).still.ended else (s.blk.link k).still

/-- From s to t no link unit changes, transmitters and hold-off lines aside. -/
def LinksKept (s t : State) : Prop := ∀ k, (t.blk.link k).still = (s.blk.link k).still

/-- From s to t no report joins link k's queue: it is as before, or has given its head to an
idle transmitter. -/
def QueueKept (s t : State) (k : LinkId) : Prop :=
  (t.blk.rep k).queue = (s.blk.rep k).queue ∨
    ((s.blk.link k).tx = .idle ∧ (t.blk.rep k).queue = (s.blk.rep k).queue.drop 1)

/-- From s to t no report is posted. -/
def NoReport (s t : State) : Prop :=
  ∀ k, (t.blk.rep k).lost = (s.blk.rep k).lost ∧ QueueKept s t k

/-- Link k, in state s, receives a report of class c: subscribed, taking frames, with a place
in its report queue. -/
def Subscribes (s : State) (c : ReportClass) (k : LinkId) : Prop :=
  hasBit (s.blk.link k).subscription c.bit = true ∧ Hears s k ∧ (s.blk.rep k).queue.length < 16

/-- Link k, in state s, receives reports of class c and of no other, with room for eight. -/
def SubscribesOnly (s : State) (c : ReportClass) (k : LinkId) : Prop :=
  Subscribes s c k ∧
    (∀ other : ReportClass, hasBit (s.blk.link k).subscription other.bit = true → other = c) ∧
    (s.blk.rep k).queue.length ≤ 8

/-- In state t a report stands in link k's queue, or is being sent. -/
def Posted (t : State) (k : LinkId) (f : Frame) : Prop :=
  f ∈ (t.blk.rep k).queue ∨ (t.blk.link k).tx = .report f

/-- R175, R176: from s to t exactly one report is posted, to each link of `addressees`: a link with a
place takes it; a link that is in BREAK, has no address or holds 16 reports drops it and sets
REPORTS_LOST; every other link gets none. -/
def OnlyReport (s t : State) (addressees : LinkId → Prop) (f : Frame) : Prop :=
  ∀ k,
    (addressees k → Hears s k → (s.blk.rep k).queue.length < 16 →
      (t.blk.rep k).lost = (s.blk.rep k).lost ∧ Posted t k f) ∧
    (addressees k → ¬(Hears s k ∧ (s.blk.rep k).queue.length < 16) →
      (t.blk.rep k).lost = true ∧ QueueKept s t k) ∧
    (¬addressees k → (t.blk.rep k).lost = (s.blk.rep k).lost ∧ QueueKept s t k)

/-- R175: from s to t report f is posted, to link k at least: it takes the report, or drops it for want
of a place and sets REPORTS_LOST. Said of a link that takes frames. -/
def Reached (s t : State) (k : LinkId) (f : Frame) : Prop :=
  Hears s k → Posted t k f ∨ (t.blk.rep k).lost = true

/-- R175: from s to t report f of class c is posted to every subscribing link. -/
def Reaches (s t : State) (c : ReportClass) (f : Frame) : Prop :=
  ∀ k, hasBit (s.blk.link k).subscription c.bit = true → Reached s t k f

/-- R175: from s to t report f of class c is posted to every subscribing link, and at most n - 1 reports
of its class stand before it: a link that receives no other class and has n places free has it. -/
def Told (s t : State) (c : ReportClass) (n : Nat) (f : Frame) : Prop :=
  Reaches s t c f ∧
  ∀ k, hasBit (s.blk.link k).subscription c.bit = true → Hears s k →
    (∀ other : ReportClass, hasBit (s.blk.link k).subscription other.bit = true → other = c) →
    (s.blk.rep k).queue.length + n ≤ 16 → Posted t k f

/-- R37: the SECTION report of a cause: the section's index, its old occupancy, and its state after the
event. -/
def sectionFrame (cause i : Nat) (old : Occupancy) (v : SectionState) : Frame :=
  ⟨0xC3, b1 cause ++ b1 i ++ b1 old.code ++ b1 v.occ.code ++ o1 v.owner ++ flag v.wasOccupied ++
    flag v.releaseFault⟩

/-- R94, R122, section 11.4: a ROUTE report of a cause about the instance in a slot. -/
def routeFrame (cause slot : Nat) (v : RouteInst) (last : List Byte) : Frame :=
  ⟨0xC1, b1 cause ++ b1 slot ++ b1 v.definition ++ b1 (linkCode v.link) ++ o2 v.tram ++
    o2 v.movement ++ last⟩

/-- R122: the ROUTE report STATE of an instance, now v: its old and new state, its entrance signal with
the aspect, its stall cause with the point or section. -/
def stateFrame (d : Desc) (slot : Nat) (old : InstState) (v : RouteInst) (a : Aspect) : Frame :=
  routeFrame 6 slot v
    (b1 old.code ++ b1 v.state.code ++ b1 (d.route v.definition).entrance ++ b1 a.code ++
      o1 (v.stallCause.map StallCause.code) ++ o1 (v.stallCause.map StallCause.element))

/-- R160: the PROGRAMME report of an entry's change from one state to another. The bytes of an absent
slot and outcome are the model's reading (log entry 17). -/
def entryFrame (e : ProgEntry) (old new : EntryState) (slot : Option Nat) (o : Option Outcome) : Frame :=
  ⟨0xC5, b1 0 ++ b2 e.movement ++ b1 e.kind.code ++ b2 e.tram ++ b1 e.road ++ b1 old.code ++
    b1 new.code ++ o1 slot ++ outcomeBody o⟩

/-! ### The yard -/

/-- The blocks less the link units and their report queues. -/
def Blocks.yard (y : Blocks) : Blocks :=
  { y with links := ⟨{}, {}, {}⟩, reps := ⟨{}, {}, {}⟩ }

/-- From s to t only blocks change: description, pins and queue of commands stand. -/
def OnlyBlocks (s t : State) : Prop := t = { s with blk := t.blk }

/-- R172: the request is answered: description, pins and queue of commands stand, the answer
joins link l's buffer, and no other link unit changes. -/
def AnswersWith (s t : State) (l : LinkId) (f : Frame) : Prop :=
  OnlyBlocks s t ∧ LinkMoves s t l fun u => { u with answers := u.answers ++ [f] }

/-- R18, R180: a request that changes nothing but the answer. -/
def OnlyAnswers (s t : State) (l : LinkId) (kind : Byte) (body : List Byte) : Prop :=
  AnswersWith s t l ⟨kind, body⟩ ∧ t.blk.yard = s.blk.yard ∧ NoReport s t

/-- What an event of point i leaves: mode, sections, test scheduler, rotation, roads and fleet
stand, and so does every other point that is not in the drive queue. -/
def PointFrame (s t : State) (i : Nat) : Prop :=
  t.blk.yard = { s.blk.yard with
    pts := t.blk.pts, queue := t.blk.queue, slots := t.blk.slots, sigs := t.blk.sigs
    insts := t.blk.insts, areas := t.blk.areas, wait := t.blk.wait, prog := t.blk.prog
    out := t.blk.out } ∧
  ∀ j, j ≠ i → j ∉ s.blk.queue → t.blk.pt j = s.blk.pt j

/-- What a desk request on road i leaves: everything but that road, the marks of the waiting
list and the programme. -/
def RoadFrame (s t : State) (i : Nat) : Prop :=
  t.blk.yard = { s.blk.yard with roads := t.blk.roads, wait := t.blk.wait, prog := t.blk.prog } ∧
  ∀ j, j ≠ i → t.blk.road j = s.blk.road j

/-- A command that changes nothing but what the end of a step judges. -/
def Unmoved (s t : State) : Prop :=
  OnlyBlocks s t ∧ t.blk.yard = s.blk.yard ∧ LinksKept s t ∧ NoReport s t

/-- R81: walk request q takes link l's active slot, else its staged slot, with a reserved answer
place, or is answered BUSY; nothing else changes. -/
def TakesSlot (s t : State) (l : LinkId) (q : WalkRequest) : Prop :=
  OnlyBlocks s t ∧ t.blk.yard = s.blk.yard ∧ NoReport s t ∧
  match (s.blk.link l).active, (s.blk.link l).staged with
  | none, _ => LinkMoves s t l fun u => { u with active := some q, reserved := u.reserved + 1 }
  | some _, none => LinkMoves s t l fun u => { u with staged := some q, reserved := u.reserved + 1 }
  | some _, some _ =>
    LinkMoves s t l fun u => { u with answers := u.answers ++ [⟨q.origin.kind, [0x15]⟩] }

/-- R14: what validation makes certain of a loaded route definition. -/
def RouteSound (rt : RouteDef) : Prop :=
  rt.sections ≠ [] ∧ rt.sections.Nodup ∧ (∀ x ∈ rt.sections, x < 96) ∧ rt.entrance < 64 ∧
  (∀ c ∈ rt.points, c.1 < 48) ∧ (∀ c ∈ rt.flanks, c.1 < 48) ∧
  (rt.points.map (·.1) ++ rt.flanks.map (·.1)).Nodup ∧
  (∀ r, rt.origin = some r ∨ rt.dest = some r → r < 24) ∧ (rt.origin = none ∨ rt.dest = none)

/-- The first element of a list of which `bad` holds, as a check that fails, stands at place n. -/
def FirstBad {α : Type} (bad : α → Prop) (items : List α) (n : Nat) : Prop :=
  (∃ e, items[n]? = some e ∧ bad e) ∧ ∀ e ∈ items.take n, ¬bad e

/-! ### The geometry of a road -/

/-- R128: the nominal start of record n of a road's stack, and with n their number P. -/
def recordStart (d : Desc) (y : Blocks) (r n : Nat) : Nat :=
  d.roadB r + (((y.road r).stack.take n).map fun e => e.length + d.roadG r).sum

/-- R144: road r is chosen for a tram: IDLE, fewer than 8 records, and P + ℓ ≤ L. -/
def RoadTakes (d : Desc) (y : Blocks) (r tram : Nat) : Prop :=
  (y.road r).status = .idle ∧ (y.road r).stack.length < 8 ∧
    recordStart d y r (y.road r).stack.length + tramLength d y tram ≤ d.roadL r

/-- R144: the automatic choice at a post: this definition is that of the first candidate whose road
takes the tram. -/
def Chooses (d : Desc) (y : Blocks) (post tram definition : Nat) : Prop :=
  ∃ k r, FirstBad (fun c => RoadTakes d y c.1 tram) (d.postCandidates post) k ∧
    (d.postCandidates post)[k]? = some (r, definition)

/-- R130: the expectation of cell j of a road, counted from 0: occupied 0, clear 1, either 2. Two
intervals overlap where the higher of the starts lies below the lower of the ends. -/
def cellExpected (d : Desc) (y : Blocks) (r j : Nat) : Nat :=
  let cells := d.roadCells r
  let lo := if j = 0 then 0 else d.secOuter (cells.getD (j - 1) 0)
  let hi := d.secOuter (cells.getD j 0)
  let meets := fun (a b : Nat) => decide (max a lo < min b hi)
  let recs := (y.road r).stack.zipIdx.map fun (e, n) => (e, recordStart d y r n)
  if recs.any fun (e, s) =>
      decide (e.state ≠ .departing) && meets (s + d.roadT r) (s + e.length - d.roadT r) then 0
  else if recs.any fun (e, s) => meets (s - d.roadT r) (s + e.length + d.roadT r) then 2
  else 1

/-- R131: cell j of a road, counted from 0, disagrees. -/
abbrev CellDisagrees (d : Desc) (y : Blocks) (r j : Nat) : Prop :=
  (y.sec ((d.roadCells r).getD j 0)).occ = .disturbed ∨
  ((y.sec ((d.roadCells r).getD j 0)).occ = .clear ∧ cellExpected d y r j = 0) ∨
  ((y.sec ((d.roadCells r).getD j 0)).occ = .occupied ∧ cellExpected d y r j = 1)

/-- R131: a road agrees: none of its cells disagrees. -/
def RoadAgrees (d : Desc) (y : Blocks) (r : Nat) : Prop :=
  ∀ j, j < (d.roadCells r).length → ¬CellDisagrees d y r j

/-- R131, R178: the set of the cells that disagree, as a byte: cell j, counted from 0, is bit j. -/
def badCells (d : Desc) (y : Blocks) (r : Nat) : List Byte :=
  b1 (bitSet ((List.range (d.roadCells r).length).filter fun j => decide (CellDisagrees d y r j)))

/-- R145: a ROAD report of a cause: road, status, phase, number of records, P, F, the outermost record and
the cells that disagree; `last` is the tram of a record that is gone. The bytes of absent fields are the
model's reading (log entry 17). -/
def roadFrame (cause : Nat) (d : Desc) (y : Blocks) (r : Nat) (last : List Byte) : Frame :=
  let v := y.road r
  let next := recordStart d y r v.stack.length
  ⟨0xC4, b1 cause ++ b1 r ++ b1 v.status.code ++ o1 (v.phase.map ArrivalPhase.code) ++
    b1 v.stack.length ++ b2 next ++ b2 (d.roadL r - next) ++
    (match v.stack.getLast? with
      | some e => b2 e.tram ++ b2 e.length ++ b1 e.state.code
      | none => b2 65535 ++ b2 65535 ++ b1 255) ++
    badCells d y r ++ last⟩

/-- R133, R143: in t road r has entered IDLE, its record otherwise w, and has been judged, with the
sections of y: the HOLD timer stops where the road agrees, and runs where it does not. -/
def BackIdle (d : Desc) (y : Blocks) (t : State) (r : Nat) (w : RoadState) : Prop :=
  (RoadAgrees d (setRoad r w y) r → t.blk.road r = { w with timer := none }) ∧
  (¬RoadAgrees d (setRoad r w y) r → t.blk.road r = { w with
    timer := if w.timer = none then some ⟨.hold, d.tHold⟩ else w.timer })

/-! ### The programme -/

/-- The programme's entries less their tried marks, which a release event clears. -/
def untried (es : List ProgEntry) : List ProgEntry := es.map fun e => { e with tried := false }

/-- R150: from one list of entries to another no entry changes, tried marks aside, but that one
CALLED entry may be offered. -/
def MayOffer (old new : List ProgEntry) : Prop :=
  untried new = untried old ∨
    ∃ j e, old[j]? = some e ∧ e.state = .called ∧
      untried new = untried (old.set j { e with state := .dispatched })

/-- R149, R150: programme p may offer the entry at place j of a list: it is CALLED, its tried mark clear,
its minute met, and fewer than the dispatch window's number of unfinished entries stand before it. -/
def MayGo (d : Desc) (p : Programme) (es : List ProgEntry) (j : Nat) : Prop :=
  ∃ e, es[j]? = some e ∧ e.state = .called ∧ e.tried = false ∧ e.met p.clock = true ∧
    ((es.take j).filter fun x => !x.finished).length < d.window

/-- R150: the offer that programme p makes in RUNNING, from one list of entries to another: with the hold
flag clear and no entry DISPATCHED, the first that may be offered becomes so; no other entry changes. -/
def Offered (d : Desc) (p : Programme) (old new : List ProgEntry) : Prop :=
  let free := p.hold = false ∧ ∀ e ∈ old, e.state ≠ .dispatched
  (∀ j e, free → MayGo d p old j → (∀ i, i < j → ¬MayGo d p old i) → old[j]? = some e →
    new = old.set j { e with state := .dispatched }) ∧
  (¬free ∨ (∀ j, ¬MayGo d p old j) → new = old)

/-- R152: the entry that a notice of the road stack unit, with this kind, road and tram, is for stands at
place j. -/
def NoticeFor (s : State) (kind : EntryKind) (r tram j : Nat) : Prop :=
  FirstBad (fun e : ProgEntry =>
    e.state = .running ∧ e.kind = kind ∧ e.road = r ∧ e.tram = tram) s.blk.prog.entries j

/-- R152, R160: from s to t the notice gives its entry this state and outcome, with a PROGRAMME report;
where it is for none, no entry changes, tried marks and the offer aside. -/
def Noticed (s t : State) (kind : EntryKind) (r tram : Nat) (st : EntryState) (o : Option Outcome) :
    Prop :=
  (∀ j e, NoticeFor s kind r tram j → s.blk.prog.entries[j]? = some e →
    MayOffer (s.blk.prog.entries.set j { e with state := st, outcome := o })
      t.blk.prog.entries ∧
    Told s t .programme 1 (entryFrame e .running st none o)) ∧
  ((∀ j, ¬NoticeFor s kind r tram j) → MayOffer s.blk.prog.entries t.blk.prog.entries)

/-- R153, R160: from s to t the sequencer takes the notice that an instance with movement number v's has
been cancelled: the entry of its movement, if it is RUNNING, is FAILED with outcome CANCELLED and a
PROGRAMME report; no other entry changes, tried marks and the offer aside. -/
def MovementCancelled (s t : State) (v : RouteInst) : Prop :=
  let es := s.blk.prog.entries
  let ends := fun (j : Nat) (e : ProgEntry) => ∃ m, v.movement = some m ∧
    FirstBad (fun e : ProgEntry => e.movement = m) es j ∧ es[j]? = some e ∧ e.state = .running
  (∀ j e, ends j e →
    MayOffer (es.set j { e with state := .failed, outcome := some .cancelled }) t.blk.prog.entries ∧
    Told s t .programme 1 (entryFrame e .running .failed none (some .cancelled))) ∧
  ((∀ j e, ¬ends j e) → MayOffer es t.blk.prog.entries)

/-- R149: an auto-departure that is due becomes CALLED. -/
def autoCalled (clock : Option Nat) (e : ProgEntry) : ProgEntry :=
  if e.kind = .depart ∧ e.auto = true ∧ e.state = .planned ∧ e.met clock = true then
    { e with state := .called, outcome := none }
  else e

/-- R149, R160: from s to t each auto-departure that is due by this clock has posted its PROGRAMME report,
at most those of the entries before it in the list standing before it: that several are called in list
order is the model's choice (log entry 36). -/
def CallsTold (s t : State) (clock : Option Nat) : Prop :=
  ∀ j e, s.blk.prog.entries[j]? = some e → autoCalled clock e ≠ e →
    Told s t .programme (j + 1) (entryFrame e .planned .called none none)

/-! ### What an instance holds, and what trouble does to it -/

/-- R103: a flank requirement with this release-with index was claimed by v. -/
def ClaimedFlank (rt : RouteDef) (v : RouteInst) (w : Nat) : Prop :=
  ∀ k, (v.shortenedAt.bind fun g => (rt.inters.find? fun c => c.1 == g).map (·.2)) = some k → w ≤ k

/-- R103: instance v holds point p, by route lock or in flank, and requires it at x. -/
def Requires (d : Desc) (v : RouteInst) (p : Nat) (x : Position) : Prop :=
  ((p, x) ∈ (d.route v.definition).points ∧ d.ptSec p ∈ v.unreleased) ∨
  ∃ w, (p, x, w) ∈ (d.route v.definition).flanks ∧ v.releaseIndex ≤ w ∧
    ClaimedFlank (d.route v.definition) v w

/-- R103: v holds p, and requires it at x and nowhere else (R14 leaves a definition no other
case). -/
def HoldsPoint (d : Desc) (v : RouteInst) (p : Nat) (x : Position) : Prop :=
  Requires d v p x ∧ ∀ x', Requires d v p x' → x' = x

/-- R104: what makes an instance in SETTING OPEN. -/
def Proved (d : Desc) (y : Blocks) (v : RouteInst) : Prop :=
  (∀ p x, Requires d v p x → (y.pt p).presented.isAt x = true) ∧
  ∀ i ∈ v.unreleased, (y.sec i).occ = .clear

/-- R102: an instance has been entered. -/
def HasEntered (y : Blocks) (v : RouteInst) : Prop :=
  0 < v.releaseIndex ∨ ∃ i ∈ v.unreleased, (y.sec i).wasOccupied = true

/-- No other live instance has the entrance signal of the one in this slot (R40). -/
def SoleUser (s : State) (slot : Nat) (v : RouteInst) : Prop :=
  ∀ j w, j ≠ slot → s.blk.inst j = some w →
    (s.desc.route w.definition).entrance ≠ (s.desc.route v.definition).entrance

/-- R104, R105, R122: from s to t instance v, in SETTING, is judged: OPEN, approach-locked and its signal
at PROCEED, with its STATE report, where t finds all that R104 requires, else as it was. A definition in
force has its entrance below 64 (R14). -/
def Judged (s t : State) (slot : Nat) (v : RouteInst) : Prop :=
  let g := (s.desc.route v.definition).entrance
  let w := { v with state := .opened, approachLocked := true }
  (Proved s.desc t.blk v → t.blk.inst slot = some w ∧
    (g < 64 → Reaches s t .route (stateFrame s.desc slot .setting w .proceed) ∧
      (SoleUser s slot v → (t.blk.sig g).aspect = .proceed))) ∧
  (¬Proved s.desc t.blk v → t.blk.inst slot = some v ∧
    (SoleUser s slot v → (t.blk.sig g).aspect = (s.blk.sig g).aspect))

/-- R107, R110, R122: from s to t instance v is stalled, its signal going to STOP where it was OPEN, with
its STATE report where it was OPEN or ENTERED. -/
def StalledBy (s t : State) (slot : Nat) (v : RouteInst) (why : StallCause) : Prop :=
  let g := (s.desc.route v.definition).entrance
  let w := { v with state := .stalled, stallCause := some why }
  t.blk.inst slot = some w ∧
  (v.state = .opened → Reaches s t .route (stateFrame s.desc slot .opened w .stop) ∧
    (SoleUser s slot v → (t.blk.sig g).aspect = .stop)) ∧
  (v.state = .entered → SoleUser s slot v →
    Reaches s t .route (stateFrame s.desc slot .entered w (s.blk.sig g).aspect))

/-- R106, R107: a presented detection of point p that goes to `shown` stalls every instance in OPEN
or ENTERED whose required position it so leaves. -/
def LossStalls (s t : State) (p : Nat) (shown : Detection) : Prop :=
  ∀ slot v x, s.blk.inst slot = some v → HoldsPoint s.desc v p x →
    v.state = .opened ∨ v.state = .entered →
    (s.blk.pt p).presented.isAt x = true → shown.isAt x = false →
    StalledBy s t slot v (.pointLost p)

/-- R104 to R107: trouble `why` at point p, its presented detection first going to `shown`: it stalls
every instance in SETTING, OPEN and ENTERED that holds p, but where the loss of detection has done
so; one in SETTING may have become OPEN, and so approach-locked, by that detection; in any other
state it changes nothing. -/
def TroubleStalls (s t : State) (p : Nat) (shown : Detection) (why : StallCause) : Prop :=
  LossStalls s t p shown ∧
  ∀ slot v x, s.blk.inst slot = some v → HoldsPoint s.desc v p x →
    (v.state = .opened ∨ v.state = .entered →
      (s.blk.pt p).presented.isAt x = false ∨ shown.isAt x = true → StalledBy s t slot v why) ∧
    (v.state = .setting → shown.isAt x = false ∨ shown = (s.blk.pt p).presented →
      StalledBy s t slot v why) ∧
    (v.state = .setting → StalledBy s t slot v why ∨
      StalledBy s t slot { v with approachLocked := true } why) ∧
    (v.state = .cancelling ∨ v.state = .stalled ∨ v.state = .handReleasing →
      t.blk.inst slot = some v)

/-- R58, R112 steps 2 and 3: from s to t instance v gives up the locks of the points of these
sections, each with its list index, and no other: the route lock of a required point in one of them
is gone, the flank count of a point held in flank up to one of them is one less. A flank point stands
in a definition once (R14). -/
def LocksGivenUp (s t : State) (v : RouteInst) (secs : List (Nat × Nat)) : Prop :=
  let rt := s.desc.route v.definition
  (rt.flanks.map (·.1)).Nodup → ∀ p,
    let unlocked := (∃ x, (p, x) ∈ rt.points) ∧ s.desc.ptSec p ∈ v.unreleased ∧
      ∃ i, (s.desc.ptSec p, i) ∈ secs
    let shed := ∃ x w, (p, x, w) ∈ rt.flanks ∧ v.releaseIndex ≤ w ∧ ClaimedFlank rt v w ∧
      ∃ i, (i, w) ∈ secs
    (unlocked → (t.blk.pt p).routeOwner = none ∧ (t.blk.pt p).routePos = none) ∧
    (¬unlocked → (t.blk.pt p).routeOwner = (s.blk.pt p).routeOwner ∧
      (t.blk.pt p).routePos = (s.blk.pt p).routePos) ∧
    (shed → (t.blk.pt p).flankCount = (s.blk.pt p).flankCount - 1 ∧
      (t.blk.pt p).flankPos =
        if (s.blk.pt p).flankCount ≤ 1 then none else (s.blk.pt p).flankPos) ∧
    (¬shed → (t.blk.pt p).flankCount = (s.blk.pt p).flankCount ∧
      (t.blk.pt p).flankPos = (s.blk.pt p).flankPos)

/-- R55, R116 step 3: the whole release of v, from s to t, withdraws the drive of point p: one that gives
up a lock of v, is QUEUED and is left without a lock. -/
def WithdrawnBy (s t : State) (v : RouteInst) (p : Nat) : Prop :=
  let rt := s.desc.route v.definition
  ((∃ x, (p, x) ∈ rt.points ∧ s.desc.ptSec p ∈ v.unreleased) ∨
    ∃ x w i, (p, x, w) ∈ rt.flanks ∧ v.releaseIndex ≤ w ∧ ClaimedFlank rt v w ∧
      (i, w) ∈ v.unreleased.zipIdx v.releaseIndex) ∧
  (s.blk.pt p).drive = .queued ∧ (t.blk.pt p).routeOwner = none ∧ (t.blk.pt p).flankCount = 0

/-- R116: the release of the whole of v, from s to t, frees its slot. Its sections are unlocked, their
marks with the owner; every other section stands. It gives up all its locks (R58); the drive of a point so
left queued without a lock is withdrawn, every other drive stands. Its entrance signal is at STOP without
owner; every other signal keeps its owner. An instance that holds no point whose drive is withdrawn stands;
one that does may be stalled by it, or opened. Each unlock posts its SECTION report (R37), and the freeing
the ROUTE report RELEASED of its manner (R122), behind the STATE reports of instances that a withdrawal
stalls or opens. -/
def WholeRelease (s t : State) (slot : Nat) (v : RouteInst) (manner : Manner) : Prop :=
  let g := (s.desc.route v.definition).entrance
  let unlocked := fun (x : Nat) =>
    { s.blk.sec x with owner := none, wasOccupied := false, releaseFault := false }
  let released := routeFrame 7 slot v (b1 manner.code)
  t.blk.inst slot = none ∧
  (∀ x ∈ v.unreleased, t.blk.sec x = unlocked x) ∧
  (∀ x, x ∉ v.unreleased → t.blk.sec x = s.blk.sec x) ∧
  LocksGivenUp s t v (v.unreleased.zipIdx v.releaseIndex) ∧
  (∀ p,
    (WithdrawnBy s t v p → (t.blk.pt p).drive = .idle ∧ (t.blk.pt p).target = none) ∧
    (¬WithdrawnBy s t v p →
      (t.blk.pt p).drive = (s.blk.pt p).drive ∧ (t.blk.pt p).target = (s.blk.pt p).target)) ∧
  (t.blk.sig g).owner = none ∧ (t.blk.sig g).aspect = .stop ∧
  (∀ h, h ≠ g → (t.blk.sig h).owner = (s.blk.sig h).owner) ∧
  (∀ j, j ≠ slot → s.blk.inst j = none → t.blk.inst j = none) ∧
  (∀ j w, j ≠ slot → s.blk.inst j = some w →
    (∃ st lock why, t.blk.inst j = some { w with
      state := st, approachLocked := lock, stallCause := why }) ∧
    ((∀ p x, WithdrawnBy s t v p → ¬Requires s.desc w p x) → t.blk.inst j = some w)) ∧
  (∀ n x, v.unreleased[n]? = some x →
    Told s t .sect (n + 1) (sectionFrame 2 x (s.blk.sec x).occ (unlocked x))) ∧
  Reaches s t .route released ∧
  ((∀ p, ¬WithdrawnBy s t v p) → Told s t .route 1 released) ∧
  t.blk.ctl = s.blk.ctl ∧ t.blk.tst = s.blk.tst ∧ t.blk.rot = s.blk.rot ∧ t.blk.fleet = s.blk.fleet

/-- R103, R114: instance v still holds road r, as its origin or its destination. -/
def HoldsRoad (d : Desc) (v : RouteInst) (r : Nat) : Prop :=
  let rt := d.route v.definition
  d.roadMouth r ∈ v.unreleased ∧
    (rt.origin = some r ∨ (rt.origin = none ∧ rt.dest = some r ∧ v.shortenedAt = none))

/-- R114, R138, R143, R145: from s to t the reservation of the road that v holds is given up: an arrival,
RESERVED, is removed from the stack, a departure is STABLED again; the road is IDLE and judged, with the
ROAD report GIVEN_UP. Every other road stands. -/
def ReservationGivenUp (s t : State) (v : RouteInst) : Prop :=
  let rt := s.desc.route v.definition
  (∀ r, ¬HoldsRoad s.desc v r → t.blk.road r = s.blk.road r) ∧
  ∀ r, HoldsRoad s.desc v r →
    let old := s.blk.road r
    let told := ∀ x, old.stack.getLast? = some x →
      Told s t .road 1 (roadFrame 5 s.desc t.blk r (b2 x.tram))
    let departing := rt.origin = some r ∧ old.status = .departing
    let arriving := rt.origin = none ∧ old.status = .arriving ∧ old.phase = some .reserved
    (departing →
      BackIdle s.desc s.blk t r { old with status := .idle, stack := setTop .stabled old.stack } ∧ told) ∧
    (arriving →
      BackIdle s.desc s.blk t r { old with status := .idle, phase := none, stack := old.stack.dropLast } ∧
      told) ∧
    (¬departing → ¬arriving → t.blk.road r = old)

/-! ### The walker's turns and checks, from the rules -/

/-- R83: a requester is ready. -/
def Ready (y : Blocks) : Turn → Prop
  | .waiting => y.mode = .running ∧ ∃ e ∈ y.wait, e.tried = false
  | .link l => (y.link l).active ≠ none
  | .programme =>
    y.mode = .running ∧ y.prog.hold = false ∧ ∃ e ∈ y.prog.entries, e.state = .dispatched

/-- R83: the place of a requester in the rotation: waiting list, link A, link B, link C, programme. -/
def Turn.place : Turn → Nat
  | .waiting => 0
  | .link .a => 1
  | .link .b => 2
  | .link .c => 3
  | .programme => 4

/-- R83: how many requesters stand between requester r and t, going round the rotation. -/
def Turn.after (r t : Turn) : Nat := (t.place + 4 - r.place) % 5

/-- R83: t is the first ready requester after the one the pointer names. -/
def HasTurn (y : Blocks) (t : Turn) : Prop :=
  Ready y t ∧ ∀ u, Ready y u → y.rot.after t ≤ y.rot.after u

/-- R84 checks 2 to 4: request q fails, with failure f. -/
def RequestFails (d : Desc) (y : Blocks) (q : WalkRequest) (f : Failure) : Prop :=
  let planner := [LinkId.a, .b, .c].find? fun k => (y.link k).role == some .planner
  let agrees :=
    (q.origin = .setRoute ∧ ∃ l, q.requester = .link l ∧ (y.link l).role = some .desk) ∨
    (q.origin = .call ∧ ∃ l, q.requester = .link l ∧ (y.link l).role = some .calls) ∨
    (q.origin = .programme ∧ planner.isSome = true)
  let barred := fun i => ¬∃ l, (q.requester = .link l ∨ (q.requester = .programme ∧ planner = some l)) ∧
    (y.link l).areas.getLsbD (d.secArea i) = true
  (¬agrees ∧ f = .notPermitted) ∨
  (agrees ∧ d.rtLoaded q.definition = false ∧ f = .notFound) ∨
  (agrees ∧ d.rtLoaded q.definition = true ∧
    ∃ n i, FirstBad barred (d.route q.definition).sections n ∧
      (d.route q.definition).sections[n]? = some i ∧ f = .areaNotPermitted i)

/-- R85: listed section i fails check 5. -/
def SectionFails (d : Desc) (y : Blocks) (q : WalkRequest) (i : Nat) (f : Failure) : Prop :=
  let a := y.area (d.secArea i)
  let shut := a.status = .pending ∨ (a.status = .possessed ∧ (q.key = 0 ∨ a.key ≠ q.key))
  (shut ∧ f = .possession i (d.secArea i)) ∨
  (¬shut ∧ (y.sec i).owner ≠ none ∧ f = .conflict .sect i .locked) ∨
  (¬shut ∧ (y.sec i).owner = none ∧ (y.sec i).occ ≠ .clear ∧ f = .conflict .sect i .occupied)

/-- R86: point p, required at x, fails check 7. -/
def PointFails (y : Blocks) (p : Nat) (x : Position) (f : Failure) : Prop :=
  let v := y.pt p
  (v.drive = .learning ∧ f = .conflict .point p .learning) ∨
  (v.drive ≠ .learning ∧ v.blocked = true ∧ f = .pointBlocked p) ∨
  (v.drive ≠ .learning ∧ v.blocked = false ∧ v.routeOwner ≠ none ∧
    f = .conflict .point p .locked) ∨
  (v.drive ≠ .learning ∧ v.blocked = false ∧ v.routeOwner = none ∧ 0 < v.flankCount ∧
    v.flankPos ≠ some x ∧ f = .conflict .point p .flank)

/-- R87: point p, required in flank at x, fails check 8. -/
def FlankFails (d : Desc) (y : Blocks) (p : Nat) (x : Position) (f : Failure) : Prop :=
  let v := y.pt p
  let away := v.presented.isAt x = false
  let other := (v.routeOwner ≠ none ∧ v.routePos ≠ some x) ∨ (0 < v.flankCount ∧ v.flankPos ≠ some x)
  (v.blocked = true ∧ away ∧ f = .pointBlocked p) ∨
  (¬(v.blocked = true ∧ away) ∧ other ∧ f = .conflict .point p .flank) ∨
  (¬(v.blocked = true ∧ away) ∧ ¬other ∧ (y.sec (d.ptSec p)).occ ≠ .clear ∧ away ∧
    f = .conflict .point p .occupied)

/-- R88: origin road r fails check 9. -/
def OriginFails (y : Blocks) (q : WalkRequest) (r : Nat) (f : Failure) : Prop :=
  let v := y.road r
  (v.status ≠ .idle ∧ f = .roadNotReady r) ∨
  (v.status = .idle ∧ v.stack = [] ∧ f = .notFound) ∨
  (v.status = .idle ∧ v.stack ≠ [] ∧ q.tram ≠ 0 ∧ v.stack.getLast?.map (·.tram) ≠ some q.tram ∧
    (((∃ e ∈ v.stack, e.tram = q.tram) ∧ f = .blockedIn) ∨
      ((∀ e ∈ v.stack, e.tram ≠ q.tram) ∧ f = .notFound)))

/-- R88, R129: destination road r fails check 10. -/
def DestFails (d : Desc) (y : Blocks) (q : WalkRequest) (r : Nat) (f : Failure) : Prop :=
  let v := y.road r
  let has := fun j => d.roadInUse j = true ∧ ∃ e ∈ (y.road j).stack, e.tram = q.tram
  let twice := q.tram ≠ 0 ∧ ∃ j, j < 24 ∧ has j
  let start := d.roadB r + (v.stack.map fun e => e.length + d.roadG r).sum
  (v.status ≠ .idle ∧ f = .roadNotReady r) ∨
  (v.status = .idle ∧ q.tram ≠ 0 ∧ ∃ j, j < 24 ∧ has j ∧ (∀ k, k < j → ¬has k) ∧
    f = .duplicate j) ∨
  (v.status = .idle ∧ ¬twice ∧
    (8 ≤ v.stack.length ∨ d.roadL r < start + tramLength d y q.tram) ∧ f = .noFit r)

/-- R85 to R89, R91: check k, of the walk of this scope of a definition, fails, with failure f and
its place. -/
def CheckFails (d : Desc) (y : Blocks) (q : WalkRequest) (sc : Scope) (k : Nat) (f : Failure)
    (place : Option Nat) : Prop :=
  let rt := d.route q.definition
  (k = 5 ∧ ∃ n i, FirstBad (fun i => ∃ f, SectionFails d y q i f) sc.sections n ∧
    sc.sections[n]? = some i ∧ SectionFails d y q i f ∧ place = some n) ∨
  (k = 6 ∧ (y.sig rt.entrance).owner ≠ none ∧ f = .conflict .signal rt.entrance .locked ∧
    place = none) ∨
  (k = 7 ∧ ∃ n c, FirstBad (fun c => ∃ f, PointFails y c.1 c.2 f) sc.points n ∧
    sc.points[n]? = some c ∧ PointFails y c.1 c.2 f ∧
    place = some (rt.sections.idxOf (d.ptSec c.1))) ∨
  (k = 8 ∧ ∃ n c, FirstBad (fun c => ∃ f, FlankFails d y c.1 c.2.1 f) sc.flanks n ∧
    sc.flanks[n]? = some c ∧ FlankFails d y c.1 c.2.1 f ∧ place = some c.2.2) ∨
  (k = 9 ∧ ∃ r, sc.origin = some r ∧ OriginFails y q r f ∧ place = some 0) ∨
  (k = 10 ∧ ∃ r, sc.dest = some r ∧ DestFails d y q r f ∧
    place = some (rt.sections.length - 1)) ∨
  (k = 11 ∧ (∀ slot, slot < 24 → y.inst slot ≠ none) ∧ f = .listFull ∧ place = none)

/-- R84: the first of checks 5 to 11 that fails gives the failure. -/
def ScopeFails (d : Desc) (y : Blocks) (q : WalkRequest) (sc : Scope) (f : Failure)
    (place : Option Nat) : Prop :=
  ∃ k, CheckFails d y q sc k f place ∧ ∀ j, j < k → ∀ f' place', ¬CheckFails d y q sc j f' place'

/-- R90: a failure that may pass by itself. -/
def Transient (o : Origin) (f : Failure) : Prop :=
  (∃ e i c, f = .conflict e i c) ∨ (∃ i a, f = .possession i a) ∨ (∃ r, f = .roadNotReady r) ∨
  f = .listFull ∨ (f = .blockedIn ∧ o = .programme)

/-- R91: c is the intermediate signal with the largest section index below place p; the first listed
of two with the same. -/
def StopSignal (rt : RouteDef) (p : Nat) (c : Nat × Nat) : Prop :=
  ∃ before after, rt.inters = before ++ c :: after ∧ c.2 < p ∧
    (∀ b ∈ before, b.2 < p → b.2 < c.2) ∧ ∀ b ∈ after, b.2 < p → b.2 ≤ c.2

/-- R91: a failure with this place is shortened, to signal and section index c. -/
def Shortens (d : Desc) (q : WalkRequest) (f : Failure) (place : Option Nat) (c : Nat × Nat) : Prop :=
  q.stopShort = true ∧ Transient q.origin f ∧
    ∃ p, place = some p ∧ StopSignal (d.route q.definition) p c

/-- R91: after n shortened walks the walk is that of the whole definition, or of the one shortened
to a stop signal at a section index. -/
def WalkedAs (d : Desc) (y : Blocks) (q : WalkRequest) : Nat → Option (Nat × Nat) → Prop
  | 0, short => short = none
  | n + 1, short => ∃ before f place c, WalkedAs d y q n before ∧
      ScopeFails d y q (scopeOf d (d.route q.definition) (before.map (·.2))) f place ∧
      Shortens d q f place c ∧ short = some c

/-- R84 to R91: the walk of q passes, whole or shortened. -/
def WalkPasses (d : Desc) (y : Blocks) (q : WalkRequest) (short : Option (Nat × Nat)) : Prop :=
  (∀ f, ¬RequestFails d y q f) ∧
  ∃ n, n ≤ 3 ∧ WalkedAs d y q n short ∧
    ∀ f place, ¬ScopeFails d y q (scopeOf d (d.route q.definition) (short.map (·.2))) f place

/-- R84 to R91: the walk of q fails, with failure f, after at most three shortened walks. -/
def WalkFails (d : Desc) (y : Blocks) (q : WalkRequest) (f : Failure) : Prop :=
  RequestFails d y q f ∨
  ((∀ f', ¬RequestFails d y q f') ∧
    ∃ n short place, n ≤ 3 ∧ WalkedAs d y q n short ∧
      ScopeFails d y q (scopeOf d (d.route q.definition) (short.map (·.2))) f place ∧
      (n < 3 → ∀ c, ¬Shortens d q f place c))

/-! ### The idle yard and the areas -/

/-- R18, R75: the yard is idle. -/
def YardIdle (d : Desc) (y : Blocks) : Prop :=
  (∀ slot, slot < 24 → y.inst slot = none) ∧ y.wait = [] ∧
  (∀ i, d.ptInUse i = true → (y.pt i).drive = .idle ∨ (y.pt i).drive = .failed) ∧
  ∀ e ∈ y.prog.entries, e.state ≠ .dispatched ∧ e.state ≠ .running

/-- R161: the grant condition of area a. -/
def GrantCondition (d : Desc) (y : Blocks) (a : Nat) : Prop :=
  (∀ i, d.secInUse i = true → d.secArea i = a → (y.sec i).owner = none) ∧
  ∀ i, d.ptInUse i = true → d.secArea (d.ptSec i) = a →
    (y.pt i).drive = .idle ∨ (y.pt i).drive = .failed

/-- R163: from s to t a section of area a is unlocked, or a point of it leaves the drive queue, a drive
or a learning for IDLE or FAILED. -/
def AreaFreed (s t : State) (a : Nat) : Prop :=
  (∃ i, s.desc.secInUse i = true ∧ s.desc.secArea i = a ∧ (s.blk.sec i).owner ≠ none ∧
    (t.blk.sec i).owner = none) ∨
  ∃ i, s.desc.ptInUse i = true ∧ s.desc.secArea (s.desc.ptSec i) = a ∧
    ¬((s.blk.pt i).drive = .idle ∨ (s.blk.pt i).drive = .failed) ∧
    ((t.blk.pt i).drive = .idle ∨ (t.blk.pt i).drive = .failed)

/-! ### The claim -/

/-- R92, R93, R94, R104, R105: what the claim of request q for link l leaves, in slot `slot`, of the
whole route or of the one shortened to a stop signal at a section index. The reports that it posts (R37,
R94, R95, R99, R122, R126, R145): each lock; the road's reservation, with an alarm for a tram that is not
listed; its ROUTE report, of this cause, to link `also` too; the STATE report where it opens at once. A
ROUTE report may stand behind STATE reports of other instances. That the ROUTE report of a request
without a tram gives 65535 is the model's choice (log entry 31). -/
def Claimed (s t : State) (q : WalkRequest) (l : LinkId) (slot : Nat) (short : Option (Nat × Nat))
    (cause : Nat) (also : Option LinkId) : Prop :=
  let rt := s.desc.route q.definition
  let sc := scopeOf s.desc rt (short.map (·.2))
  OnlyBlocks s t ∧
  (∃ v, t.blk.inst slot = some v ∧ v.definition = q.definition ∧ v.link = l ∧
    v.tram = (if q.tram = 0 then none else some q.tram) ∧
    v.key = (if q.key = 0 then none else some q.key) ∧
    v.shortenedAt = short.map (·.1) ∧ v.movement = q.movement ∧
    v.unreleased = sc.sections ∧ v.releaseIndex = 0 ∧ v.timer = none ∧ v.stallCause = none ∧
    (Proved s.desc t.blk v → v.state = .opened ∧ v.approachLocked = true ∧
      (t.blk.sig rt.entrance).aspect = .proceed ∧
      Reaches s t .route (stateFrame s.desc slot .setting v .proceed) ∧
      ((∀ j, s.blk.inst j = none) →
        Told s t .route 2 (stateFrame s.desc slot .setting v .proceed))) ∧
    (let taken := routeFrame cause slot v (o1 v.shortenedAt)
     Reaches s t .route taken ∧ (∀ k, also = some k → Reached s t k taken) ∧
      ((∀ j, s.blk.inst j = none) → Told s t .route 1 taken)) ∧
    (¬Proved s.desc t.blk v → v.state = .setting ∧ v.approachLocked = false ∧
      (SoleUser s slot v →
        (t.blk.sig rt.entrance).aspect = (s.blk.sig rt.entrance).aspect))) ∧
  (∀ x ∈ sc.sections, t.blk.sec x = { s.blk.sec x with owner := some slot }) ∧
  (∀ x, x ∉ sc.sections → t.blk.sec x = s.blk.sec x) ∧
  (t.blk.sig rt.entrance).owner = some slot ∧
  (∀ g, g ≠ rt.entrance → (t.blk.sig g).owner = (s.blk.sig g).owner) ∧
  (∀ c ∈ sc.points, (t.blk.pt c.1).routeOwner = some slot ∧ (t.blk.pt c.1).routePos = some c.2 ∧
    (c.1 ∉ s.blk.queue →
      (t.blk.pt c.1).presented.isAt c.2 = true ∨ (t.blk.pt c.1).target = some c.2)) ∧
  (∀ c ∈ sc.flanks, (t.blk.pt c.1).flankCount = (s.blk.pt c.1).flankCount + 1 ∧
    (t.blk.pt c.1).flankPos = some c.2.1) ∧
  (∀ p, p ∉ sc.points.map (·.1) →
    (t.blk.pt p).routeOwner = (s.blk.pt p).routeOwner ∧
    (t.blk.pt p).routePos = (s.blk.pt p).routePos) ∧
  (∀ p, p ∉ sc.flanks.map (·.1) →
    (t.blk.pt p).flankCount = (s.blk.pt p).flankCount ∧
    (t.blk.pt p).flankPos = (s.blk.pt p).flankPos) ∧
  (∀ r, t.blk.road r =
    if sc.origin = some r then
      { s.blk.road r with
        status := .departing, timer := none, stack := setTop .departing (s.blk.road r).stack }
    else if sc.dest = some r then
      { s.blk.road r with
        status := .arriving, phase := some .reserved, timer := none
        stack := (s.blk.road r).stack ++
          [{ tram := q.tram, length := tramLength s.desc s.blk q.tram, state := .arriving }] }
    else s.blk.road r) ∧
  (∀ n x, sc.sections[n]? = some x → Told s t .sect (n + 1)
    (sectionFrame 1 x (s.blk.sec x).occ { s.blk.sec x with owner := some slot })) ∧
  (∀ r, sc.origin = some r ∨ sc.dest = some r →
    Told s t .road 1 (roadFrame 0 s.desc t.blk r [])) ∧
  (∀ r, sc.dest = some r → q.tram ≠ 0 → fleetFind s.blk q.tram = none →
    Reaches s t .alarm ⟨0xC7, b1 11 ++ b2 q.tram ++ b1 r ++ b2 s.desc.defaultLength⟩) ∧
  t.blk.ctl = s.blk.ctl ∧ t.blk.tst = s.blk.tst ∧ t.blk.fleet = s.blk.fleet

/-- R158 check 1: an entry of a request with a value out of range. -/
def BadItem (e : ProgItem) : Prop :=
  e.movement.toNat = 0 ∨ 1 < e.kind.toNat ∨ e.tram.toNat = 0 ∨ 9999 < e.tram.toNat ∨
  23 < e.road.toNat ∨ 239 < e.definition.toNat ∨
  (1439 < e.notBefore.toNat ∧ e.notBefore.toNat ≠ 65535) ∨ (e.kind = 0 ∧ flagOf e.auto = true)

/-- R158 check 2: its road is not in use, or its definition not loaded. -/
def UnknownItem (d : Desc) (e : ProgItem) : Prop :=
  d.roadInUse e.road.toNat = false ∨ d.rtLoaded e.definition.toNat = false

/-- R158 check 3: its definition does not lead into, or out of, its road. -/
def StrayItem (d : Desc) (e : ProgItem) : Prop :=
  (if e.kind = 1 then (d.route e.definition.toNat).origin
   else (d.route e.definition.toNat).dest) ≠ some e.road.toNat

/-- R158 check 4: its movement number appears twice in the request, or a live instance has it. -/
def RepeatedItem (y : Blocks) (items : List ProgItem) (e : ProgItem) : Prop :=
  1 < (items.filter fun x => x.movement.toNat == e.movement.toNat).length ∨
  ∃ slot v, y.inst slot = some v ∧ v.movement = some e.movement.toNat

/-- R158: the answer body of the first of the count check and checks 1 to 4 that fails, with the
place of the first entry that fails it. -/
def RequestRefused (d : Desc) (y : Blocks) (count : Nat) (items : List ProgItem) (body : List Byte) :
    Prop :=
  (count ≠ items.length ∧ body = [0x12, 255]) ∨
  (count = items.length ∧ ∃ n,
    (FirstBad BadItem items n ∧ body = 0x12 :: b1 n) ∨
    ((∀ e ∈ items, ¬BadItem e) ∧
      ((FirstBad (UnknownItem d) items n ∧ body = 0x30 :: b1 n) ∨
       ((∀ e ∈ items, ¬UnknownItem d e) ∧
         ((FirstBad (StrayItem d) items n ∧ body = 0x12 :: b1 n) ∨
          ((∀ e ∈ items, ¬StrayItem d e) ∧ FirstBad (RepeatedItem y items) items n ∧
            body = 0x27 :: b1 n))))))

/-- R54: point p is of section i and has a drive or a learning that has not moved it. -/
def NotYetMoved (s : State) (i p : Nat) : Prop :=
  s.desc.ptInUse p = true ∧ s.desc.ptSec p = i ∧
    ((s.blk.pt p).drive = .queued ∨ (s.blk.pt p).drive = .deadTime ∨
      ((s.blk.pt p).drive = .learning ∧ (s.blk.pt p).phase = some .waiting))

/-- R54: from s to t the points of section i, a POINT section that is CLEAR no more, have taken the
change. A queued drive or learning leaves the queue in which it stood, a drive in DEAD_TIME gives its
slot back with its rest timer running on; both are IDLE without a target, the reference count set (R54;
for a learning log entry 14). A slot is granted only when every point of the section has taken the
change (log entry 11). Every other point that is not queued stands (but for the proving step of a
settlement, R26), and a queued one may be granted a slot so freed. -/
def Withdraws (s t : State) (i : Nat) : Prop :=
  (∀ p, NotYetMoved s i p →
    s.blk.queue.count p = (if (s.blk.pt p).drive = .deadTime then 0 else 1) →
    (t.blk.pt p).drive = .idle ∧ (t.blk.pt p).target = none ∧ (t.blk.pt p).phase = none ∧
    (t.blk.pt p).count = (s.blk.pt p).count ∧ (t.blk.pt p).refCount = (s.blk.pt p).count ∧
    (t.blk.pt p).excursion = false ∧ (t.blk.pt p).output = (s.blk.pt p).output ∧
    (t.blk.pt p).restTimer = (s.blk.pt p).restTimer ∧
    (t.blk.pt p).restDir = (s.blk.pt p).restDir ∧ (t.blk.pt p).latch = (s.blk.pt p).latch ∧
    p ∉ t.blk.queue) ∧
  (s.blk.settleWatch = false → ∀ p, ¬NotYetMoved s i p → p ∉ s.blk.queue →
    t.blk.pt p = s.blk.pt p) ∧
  let dead := (List.range 48).filter fun p =>
    s.desc.ptInUse p && s.desc.ptSec p == i && (s.blk.pt p).drive == .deadTime
  (dead = [] ∨ (∀ j ∈ s.blk.queue, (s.blk.pt j).underTest = true) →
    t.blk.slots = s.blk.slots - dead.length ∧
    ∀ p, (¬NotYetMoved s i p ∨ (s.blk.pt p).drive = .deadTime →
        t.blk.queue.count p = s.blk.queue.count p) ∧
      (NotYetMoved s i p → (s.blk.pt p).drive ≠ .deadTime →
        t.blk.queue.count p = s.blk.queue.count p - 1))

/-! ### Request rows -/

/-- R178: a two-byte field as its bytes, low byte first. -/
def halfBytes (h : Half) : List Byte := [h.setWidth 8, (h >>> 8).setWidth 8]

def FleetItem.bytes (e : FleetItem) : List Byte := halfBytes e.tram ++ halfBytes e.lengthCm

/-- Section 11.2: a programme entry in a body. -/
def ProgItem.bytes (e : ProgItem) : List Byte :=
  halfBytes e.movement ++ [e.kind] ++ halfBytes e.tram ++ [e.road, e.definition] ++
    halfBytes e.notBefore ++ [e.auto]

/-- Table 27: the link, kind and body of a command that is an individually addressed request. -/
def requestOf : Instr → Option (LinkId × Byte × List Byte)
  | .unknownKindFrame l false kind => if (catRow kind).isNone then some (l, kind, []) else none
  | .status l => some (l, 0x01, [])
  | .readSection l i => some (l, 0x02, [i])
  | .readPoint l i => some (l, 0x03, [i])
  | .readSignal l i => some (l, 0x04, [i])
  | .readInstance l i => some (l, 0x05, [i])
  | .readRoad l i => some (l, 0x06, [i])
  | .readEntry l i => some (l, 0x07, [i])
  | .readWaiting l i => some (l, 0x08, [i])
  | .readArea l i => some (l, 0x09, [i])
  | .openLoad l => some (l, 0x10, [])
  | .loadBlock l table offset data => some (l, 0x11, table :: halfBytes offset ++ data)
  | .closeLoad l => some (l, 0x12, [])
  | .setRoute l definition flags key tram reserved =>
    some (l, 0x20, [definition, flags, key] ++ halfBytes tram ++ [reserved])
  | .cancelRoute l g => some (l, 0x21, [g])
  | .handRelease l g => some (l, 0x22, [g])
  | .retryRoute l g => some (l, 0x23, [g])
  | .withdraw l definition => some (l, 0x24, [definition])
  | .drivePoint l p position => some (l, 0x30, [p, position])
  | .blockPoint l p => some (l, 0x31, [p])
  | .unblockPoint l p => some (l, 0x32, [p])
  | .learnPoint l p => some (l, 0x33, [p])
  | .possessArea l a key => some (l, 0x40, [a, key])
  | .endPossession l a => some (l, 0x41, [a])
  | .declareRoad l r count trams => some (l, 0x50, r :: count :: trams.flatMap halfBytes)
  | .blockRoad l r => some (l, 0x51, [r])
  | .unblockRoad l r => some (l, 0x52, [r])
  | .confirmRoad l r => some (l, 0x53, [r])
  | .loadFleet l manner count items =>
    some (l, 0x54, manner :: count :: items.flatMap FleetItem.bytes)
  | .loadProgramme l count items => some (l, 0x60, count :: items.flatMap ProgItem.bytes)
  | .appendProgramme l count items => some (l, 0x61, count :: items.flatMap ProgItem.bytes)
  | .skipEntry l movement => some (l, 0x62, halfBytes movement)
  | .holdProgramme l false => some (l, 0x63, [])
  | .resumeProgramme l => some (l, 0x64, [])
  | .call l post tram => some (l, 0x70, post :: halfBytes tram)
  | .setGranularity l g => some (l, 0x78, [g])
  | .enterQuiet l => some (l, 0x79, [])
  | .wake l => some (l, 0x7A, [])
  | .time l false minute => some (l, 0x7F, halfBytes minute)
  | _ => none

/-- R24, R76: the kinds that are taken in RUNNING only. -/
def runningOnly (kind : Byte) : Bool :=
  [0x21, 0x22, 0x23, 0x24, 0x30, 0x31, 0x32, 0x33, 0x40, 0x41, 0x50, 0x51, 0x52, 0x53, 0x54,
   0x60, 0x61, 0x62, 0x63, 0x64, 0x79].contains kind.toNat

end Sys2Proof.Machine
end

