-- ==== Sys2Proof/Certificates/Slice0/Obligations.lean ====
section
/-! DEFINITION. The statements for the provers.  A statement about a command has as its
conclusion the next state that the command answers, under conditions on the state and the
operands alone. -/

open Sys2Proof Sys2Proof.Machine

/-! ### The machine -/

/-- A step takes the command at the front of the queue (log entry 1). -/
def Obligations.StepTakesFrontCommand : Prop :=
  ∀ (c : Instr) (rest : List Instr) (s : State),
    step { s with pending := c :: rest } = exec c { s with pending := rest }

/-- The model's own choice (log entry 1): on an empty queue 0.1 s passes at every timer, and
nothing else changes. -/
def Obligations.IdleStepTicksTimers : Prop :=
  ∀ s, s.pending = [] →
    ∃ y, step s = .next { s with blk := y } ∧
      y.ctl = { s.blk.ctl with idleTimer := s.blk.ctl.idleTimer.map (· - 1) } ∧
      (∀ i, y.sec i = { s.blk.sec i with timer := (s.blk.sec i).timer.map (· - 1) }) ∧
      (∀ i, y.pt i = { s.blk.pt i with
        strokeTimer := (s.blk.pt i).strokeTimer.map (· - 1)
        restTimer := (s.blk.pt i).restTimer.map (· - 1)
        learnTimer := (s.blk.pt i).learnTimer.map (· - 1)
        settleTimer := (s.blk.pt i).settleTimer.map (· - 1) }) ∧
      y.tst = { s.blk.tst with interval := s.blk.tst.interval.map (· - 1)
                               step := s.blk.tst.step.map (· - 1) } ∧
      (∀ i, y.inst i = (s.blk.inst i).map fun v => { v with timer := v.timer.map (· - 1) }) ∧
      y.wait = (s.blk.wait.map fun e => { e with life := e.life - 1 }) ∧
      (∀ i, y.road i = { s.blk.road i with
        timer := (s.blk.road i).timer.map fun t => { t with remaining := t.remaining - 1 } }) ∧
      y.prog = { s.blk.prog with minuteTimer := s.blk.prog.minuteTimer.map (· - 1) } ∧
      y.sigs = s.blk.sigs ∧ y.areas = s.blk.areas ∧ y.links = s.blk.links ∧
      y.reps = s.blk.reps ∧ y.queue = s.blk.queue ∧ y.slots = s.blk.slots ∧
      y.rot = s.blk.rot ∧ y.fleet = s.blk.fleet ∧ y.out = s.blk.out ∧
      y.settleWatch = s.blk.settleWatch

/-- R2, R17, R25, R39, R43, R66, R82, R97, R102, R124, R126, R147, R161, R168, R169: what POWER ON
RESET leaves; the field port's pins and the queue of commands stand. That pins and queue stand is
the model's choice (log entries 1, 5). -/
def Obligations.PowerOnResetValues : Prop :=
  ∀ addr ra rb rc s, ∃ t, exec (.powerOnReset addr ra rb rc) s = .next t ∧
    (∀ a, memRead t.desc.mem a = 255) ∧ t.desc.inForce = false ∧
    t.pins = s.pins ∧ t.pending = s.pending ∧
    t.blk.mode = .unloaded ∧ t.blk.ctl.loadingLink = none ∧ t.blk.ctl.idleTimer = none ∧
    t.blk.ctl.addr = addr ∧
    (∀ i, t.blk.sec i = { occ := .occupied, level := .occupied, healthy := true, timer := none,
                          owner := none, wasOccupied := false, releaseFault := false }) ∧
    (∀ g, t.blk.sig g = { aspect := .stop, owner := none }) ∧
    (∀ i, (t.blk.pt i).drive = .idle ∧ (t.blk.pt i).target = none ∧
      (t.blk.pt i).output = none ∧ (t.blk.pt i).strokeTimer = none ∧
      (t.blk.pt i).restTimer = none ∧ (t.blk.pt i).routeOwner = none ∧
      (t.blk.pt i).flankCount = 0 ∧ (t.blk.pt i).blocked = false ∧ (t.blk.pt i).latch = false ∧
      (t.blk.pt i).excursion = false ∧ (t.blk.pt i).mismatch = false ∧
      (t.blk.pt i).learned = false ∧ (t.blk.pt i).underTest = false ∧
      (t.blk.pt i).outcome = none ∧ (t.blk.pt i).tested = false) ∧
    t.blk.queue = [] ∧ t.blk.slots = 0 ∧
    t.blk.tst = { g := 1, pendingG := none, pointer := 0, interval := none, step := none,
                  kind := .none } ∧
    t.blk.rot = .programme ∧ (∀ i, t.blk.inst i = none) ∧ t.blk.wait = [] ∧
    (∀ i, t.blk.road i = { status := .unknown, phase := none, stack := [], timer := none,
                           declared := false }) ∧
    t.blk.fleet = [] ∧
    t.blk.prog = { entries := [], hold := false, clock := none, minuteTimer := none } ∧
    (∀ a, t.blk.area a = { status := .free, key := 0 }) ∧
    (∀ l, t.blk.link l =
      { rx := .hunt, buf := [], broadcast := false, gapRunning := false, active := none,
        staged := none, answers := [], reserved := 0, tx := .idle,
        flags := { framing := false, gap := false, length := false, check := false,
                   abandoned := false, overflow := false },
        role := none, areas := 0, subscription := 0, holdOff := false,
        rate := match l with | .a => ra | .b => rb | .c => rc }) ∧
    (∀ l, t.blk.rep l = { queue := [], lost := false })

/-- The state after reset meets the invariants of the statements below. The form of the memory is
the model's (log entry 21). -/
def Obligations.ResetMeetsInvariants : Prop :=
  DescCanonical State.reset ∧ ForceMatchesMode State.reset ∧ AnswersBounded State.reset

/-- R1, R2 (the form of the memory is the model's, log entry 21): every step keeps the
description memory in its canonical form. -/
def Obligations.DescriptionStaysCanonical : Prop :=
  ∀ s t, DescCanonical s → step s = .next t → DescCanonical t

/-- Table 14: every step keeps the description in force exactly in PROVING, RUNNING, QUIET and
WAKING. -/
def Obligations.ForceMatchesModeKept : Prop :=
  ∀ s t, ForceMatchesMode s → step s = .next t → ForceMatchesMode t

/-- R168, R173: every step keeps every answer buffer's occupancy at most 4, its reserved places
those of its full slots. -/
def Obligations.AnswerBufferBounded : Prop :=
  ∀ s t, AnswersBounded s → step s = .next t → AnswersBounded t

/-- R174: after every command, each link's hold-off line is asserted while its staged slot is
full or its occupancy is 2 or more, and released when neither holds. -/
def Obligations.HoldOffFollowsOccupancy : Prop :=
  ∀ c s, ∃ t, exec c s = .next t ∧
    ∀ l, ((t.blk.link l).holdOff = true ↔
      ((t.blk.link l).staged.isSome = true ∨ 2 ≤ (t.blk.link l).occupancy))

/-! ### Reception, acceptance and transmission -/

/-- R171: an address character outside BREAK starts a frame when it is the unit's own address or
127; any other address makes the link IGNORE; a partial frame is abandoned with ABANDONED. R171: a
data character outside ASSEMBLE changes nothing; in ASSEMBLE it is appended and the gap timer
runs, but that a LEN above 120, and a CHECK with the sum not 0, discard the frame. -/
def Obligations.CharacterReception : Prop :=
  (∀ (l : LinkId) (a : Byte) (s : State), (s.blk.link l).rx ≠ .inBreak →
      ∃ t, exec (.characterReceived l (256 + a.setWidth 9)) s = .next t ∧ OnlyBlocks s t ∧
        t.blk.yard = s.blk.yard ∧ NoReport s t ∧
        (∀ k, k ≠ l → (t.blk.link k).still = (s.blk.link k).still) ∧
        (t.blk.link l).flags =
          (if (s.blk.link l).rx = .assemble then { (s.blk.link l).flags with abandoned := true }
           else (s.blk.link l).flags) ∧
        (t.blk.link l).buf = [] ∧
        (t.blk.link l).answers = (s.blk.link l).answers ∧
        (t.blk.link l).active = (s.blk.link l).active ∧
        (t.blk.link l).staged = (s.blk.link l).staged ∧
        (if a = 127 ∨ (s.blk.addressed = true ∧ a = s.blk.ctl.addr.setWidth 8) then
          (t.blk.link l).rx = .assemble ∧ (t.blk.link l).gapRunning = true ∧
            (t.blk.link l).broadcast = (a == 127)
         else (t.blk.link l).rx = .ignore ∧ (t.blk.link l).gapRunning = false)) ∧
  (∀ (l : LinkId) (b : Byte) (s : State),
      ∃ t, exec (.characterReceived l (b.setWidth 9)) s = .next t ∧
        ((s.blk.link l).rx ≠ .assemble → Unmoved s t) ∧
        ((s.blk.link l).rx = .assemble →
          ((s.blk.link l).buf = [] ∨
              (∃ kind, (s.blk.link l).buf = [kind] ∧ b.toNat ≤ 120) ∨
              (∃ kind len body, (s.blk.link l).buf = kind :: len :: body ∧ len.toNat ≤ 120 ∧
                body.length < len.toNat) →
            OnlyBlocks s t ∧ t.blk.yard = s.blk.yard ∧ NoReport s t ∧
            ∀ k, (t.blk.link k).still =
              if k = l then { (s.blk.link l).still with
                buf := (s.blk.link l).buf ++ [b], gapRunning := true }
              else (s.blk.link k).still) ∧
          (∀ kind, (s.blk.link l).buf = [kind] → 120 < b.toNat →
            OnlyBlocks s t ∧ t.blk.yard = s.blk.yard ∧ NoReport s t ∧
            LinkMoves s t l fun u => { u with flags := { u.flags with length := true } }) ∧
          (∀ kind len body, (s.blk.link l).buf = kind :: len :: body → len.toNat ≤ 120 →
            body.length = len.toNat → frameSum ((s.blk.link l).buf ++ [b]) ≠ 0 →
            OnlyBlocks s t ∧ t.blk.yard = s.blk.yard ∧ NoReport s t ∧
            LinkMoves s t l fun u => { u with flags := { u.flags with check := true } })))

/-- R170, R171, R172, Table 27: the CHECK character that completes an individually addressed frame
is the request that the frame's kind and body spell: no byte of a body is dropped. That a request
row is one whole frame is the model's reading (log entry 7). -/
def Obligations.CharactersSpellRequests : Prop :=
  ∀ (i : Instr) (l : LinkId) (kind : Byte) (body : List Byte) (check : Byte) (s : State),
    requestOf i = some (l, kind, body) → body.length ≤ 120 → s.blk.addressed = true →
    (s.blk.link l).rx = .assemble → (s.blk.link l).broadcast = false →
    (s.blk.link l).buf = kind :: BitVec.ofNat 8 body.length :: body →
    frameSum ((s.blk.link l).buf ++ [check]) = 0 →
    exec (.characterReceived l (check.setWidth 9)) s = exec i s

/-- R171: a framing error in ASSEMBLE discards the partial frame and sets FRAMING; in HUNT it only
sets FRAMING; in IGNORE and in BREAK it has no effect. R171: the gap timer's expiry discards the
partial frame and sets GAP; while the timer is stopped the event has no effect. That the event is
ignored while the timer is stopped is the model's choice (log entry 2). -/
def Obligations.ReceptionErrorsDiscardFrame : Prop :=
  (∀ (l : LinkId) (s : State), ∃ t, exec (.framingError l) s = .next t ∧
      OnlyBlocks s t ∧ t.blk.yard = s.blk.yard ∧ NoReport s t ∧
      (match (s.blk.link l).rx with
        | .hunt => ∀ k, (t.blk.link k).still =
            if k = l then { (s.blk.link l).still with
              flags := { (s.blk.link l).flags with framing := true } }
            else (s.blk.link k).still
        | .assemble => LinkMoves s t l fun u => { u with flags := { u.flags with framing := true } }
        | .ignore => LinksKept s t
        | .inBreak => LinksKept s t)) ∧
  (∀ (l : LinkId) (s : State), ∃ t, exec (.gapTimerExpiry l) s = .next t ∧
      ((s.blk.link l).rx = .assemble → (s.blk.link l).gapRunning = true →
        OnlyBlocks s t ∧ t.blk.yard = s.blk.yard ∧ NoReport s t ∧
        LinkMoves s t l fun u => { u with flags := { u.flags with gap := true } }) ∧
      ((s.blk.link l).gapRunning = false → Unmoved s t))

/-- R172 check 1: an individual frame of a kind outside Table 27 is answered UNKNOWN_KIND; a
broadcast one is discarded without an answer. -/
def Obligations.UnknownKindAnswered : Prop :=
  ∀ (l : LinkId) (kind : Byte) (s : State), catRow kind = none → (s.blk.link l).rx ≠ .inBreak →
    (∃ t, exec (.unknownKindFrame l true kind) s = .next t ∧ OnlyBlocks s t ∧
      t.blk.yard = s.blk.yard ∧ NoReport s t ∧ LinkMoves s t l id) ∧
    (s.blk.addressed = true → (s.blk.link l).occupancy < 4 →
      ∃ t, exec (.unknownKindFrame l false kind) s = .next t ∧ OnlyAnswers s t l kind [0x10])

/-- R172: at occupancy 4 every individual request is discarded, unanswered, with OVERFLOW. -/
def Obligations.FullBufferDiscardsRequest : Prop :=
  ∀ (i : Instr) (l : LinkId) (kind : Byte) (body : List Byte) (s : State),
    requestOf i = some (l, kind, body) → Hears s l → (s.blk.link l).occupancy = 4 →
    ∃ t, exec i s = .next t ∧ OnlyBlocks s t ∧ t.blk.yard = s.blk.yard ∧ NoReport s t ∧
      LinkMoves s t l fun u => { u with flags := { u.flags with overflow := true } }

/-- R172 checks 2 and 3. A whole individually addressed frame whose LEN Table 27 does not permit
for its kind is answered BAD_LENGTH; a request whose kind Table 27 does not permit to the link's
role, a description being in force, is answered NOT_PERMITTED; nothing else changes. -/
def Obligations.RoleRefusesRequest : Prop :=
  (∀ (l : LinkId) (kind : Byte) (body : List Byte) (check : Byte) (r : CatRow) (s : State),
    Hears s l → (s.blk.link l).occupancy < 4 → (s.blk.link l).rx = .assemble →
    (s.blk.link l).broadcast = false → body.length ≤ 120 →
    (s.blk.link l).buf = kind :: BitVec.ofNat 8 body.length :: body →
    frameSum ((s.blk.link l).buf ++ [check]) = 0 →
    catRow kind = some r → r.len.ok body.length = false →
    ∃ t, exec (.characterReceived l (check.setWidth 9)) s = .next t ∧
      OnlyAnswers s t l kind [0x11]) ∧
  (∀ (i : Instr) (l : LinkId) (kind : Byte) (body : List Byte) (r : CatRow) (s : State),
    requestOf i = some (l, kind, body) → Hears s l → (s.blk.link l).occupancy < 4 →
    s.desc.inForce = true → catRow kind = some r → r.len.ok body.length = true →
    r.permits (s.blk.link l).role = false →
    ∃ t, exec i s = .next t ∧ OnlyAnswers s t l kind [0x13])

/-- R24, R76: the requests that are taken in RUNNING only are answered WRONG_MODE with the
present mode in every other mode, and nothing else changes. -/
def Obligations.OtherModesRefuseRequest : Prop :=
  ∀ (i : Instr) (l : LinkId) (kind : Byte) (body : List Byte) (r : CatRow) (s : State),
    requestOf i = some (l, kind, body) → runningOnly kind = true → CanSend s l kind →
    catRow kind = some r → r.len.ok body.length = true → s.blk.mode ≠ .running →
    ∃ t, exec i s = .next t ∧ OnlyAnswers s t l kind (0x14 :: b1 s.blk.mode.code)

/-- R173: when an answer's frame has been sent it leaves the buffer; when a report's frame has
been sent nothing but the transmitter changes; the oldest answer, else the oldest report, follows
at once. That a report leaves its queue as its frame starts is the model's reading (log entry 10).
-/
def Obligations.FrameSentStartsNext : Prop :=
  ∀ (l : LinkId) (s : State), Hears s l → (s.blk.link l).tx ≠ .idle →
    ∃ t, exec (.frameSent l) s = .next t ∧ OnlyBlocks s t ∧ t.blk.yard = s.blk.yard ∧
      (t.blk.link l).answers =
        (match (s.blk.link l).tx with
          | .answer _ => (s.blk.link l).answers.drop 1
          | _ => (s.blk.link l).answers) ∧
      (match (t.blk.link l).answers, (s.blk.rep l).queue with
        | f :: _, _ => (t.blk.link l).tx = .answer f ∧ t.blk.rep l = s.blk.rep l
        | [], f :: rest => (t.blk.link l).tx = .report f ∧ (t.blk.rep l).queue = rest
        | [], [] => (t.blk.link l).tx = .idle ∧ t.blk.rep l = s.blk.rep l) ∧
      (t.blk.link l).active = (s.blk.link l).active ∧
      (t.blk.link l).staged = (s.blk.link l).staged ∧
      (t.blk.link l).reserved = (s.blk.link l).reserved ∧
      (t.blk.link l).flags = (s.blk.link l).flags ∧
      ∀ k, k ≠ l → (t.blk.link k).still = (s.blk.link k).still

/-- R176: a line break on a link that is not the loading link empties the link unit; role, areas
and subscription are kept, and so is the yard. R176: when the line of a link in BREAK returns to
mark the receive state becomes HUNT; on any other link nothing changes. The return to mark outside
BREAK is the model's own case (log entry 2). -/
def Obligations.LineBreakAndReturnToMark : Prop :=
  (∀ (l : LinkId) (s : State), (s.blk.link l).rx ≠ .inBreak →
      ¬(s.blk.mode = .loading ∧ s.blk.ctl.loadingLink = some l) →
      ∃ t, exec (.lineBreak l) s = .next t ∧ OnlyBlocks s t ∧ t.blk.yard = s.blk.yard ∧
        t.blk.rep l = { queue := [], lost := false } ∧
        t.blk.link l =
          { rx := .inBreak, buf := [], broadcast := false, gapRunning := false, active := none,
            staged := none, answers := [], reserved := 0, tx := .idle, flags := {},
            role := (s.blk.link l).role, areas := (s.blk.link l).areas,
            subscription := (s.blk.link l).subscription, holdOff := false,
            rate := (s.blk.link l).rate } ∧
        ∀ k, k ≠ l → (t.blk.link k).still = (s.blk.link k).still) ∧
  (∀ (l : LinkId) (s : State), ∃ t, exec (.lineReturnToMark l) s = .next t ∧ OnlyBlocks s t ∧
      t.blk.yard = s.blk.yard ∧
      ((s.blk.link l).rx = .inBreak → (t.blk.link l).rx = .hunt ∧
        (t.blk.link l).answers = (s.blk.link l).answers ∧
        (t.blk.link l).flags = (s.blk.link l).flags ∧
        ∀ k, k ≠ l → (t.blk.link k).still = (s.blk.link k).still) ∧
      ((s.blk.link l).rx ≠ .inBreak → Unmoved s t))

/-- R23, R176: a line break on the loading link, and the load idle timer's expiry, abandon the
load: every byte 255, no loading link, the timer stopped, the mode UNLOADED with a MODE report
to every link that can take one; the broken link is emptied and drops the report. -/
def Obligations.AbandonedLoad : Prop :=
  ∀ (s : State), s.blk.mode = .loading →
    let abandoned := fun (t : State) => t.desc = {} ∧ t.pins = s.pins ∧ t.pending = s.pending ∧
      t.blk.yard = { s.blk.yard with ctl := { s.blk.ctl with
        mode := .unloaded, loadingLink := none, idleTimer := none } }
    (∀ l, (s.blk.link l).rx ≠ .inBreak → s.blk.ctl.loadingLink = some l →
      ∃ t, exec (.lineBreak l) s = .next t ∧ abandoned t ∧
        (t.blk.link l).rx = .inBreak ∧ (t.blk.link l).answers = [] ∧
        (t.blk.link l).active = none ∧ (t.blk.link l).staged = none ∧
        t.blk.rep l = { queue := [], lost := true } ∧
        (∀ k, k ≠ l → (t.blk.link k).still = (s.blk.link k).still) ∧
        ∀ k, k ≠ l → Hears s k → (s.blk.rep k).queue.length < 16 → Posted t k ⟨0xC8, [0, 1, 0]⟩) ∧
    (s.blk.ctl.idleTimer.isSome = true →
      ∃ t, exec .loadIdleTimerExpiry s = .next t ∧ abandoned t ∧ LinksKept s t ∧
        OnlyReport s t (fun _ => True) ⟨0xC8, [0, 1, 0]⟩)

/-! ### STATUS and the READ kinds -/

/-- R177, R181: STATUS is answered in every mode with the flags as they stand, and clears them. -/
def Obligations.StatusReturnsAndClearsFlags : Prop :=
  ∀ (l : LinkId) (s : State), CanSend s l 0x01 →
    ∃ t, exec (.status l) s = .next t ∧ OnlyBlocks s t ∧ t.blk.yard = s.blk.yard ∧
      LinkMoves s t l (fun u => { u with flags := {}, answers := u.answers ++ [⟨0x01,
        [0] ++ b1 s.blk.mode.code ++ flag s.desc.inForce ++
        o1 (s.blk.ctl.loadingLink.map linkCode) ++
        b1 (flagSet (s.blk.link l).flags (s.blk.rep l).lost) ++
        b1 ((s.blk.link l).answers.length + (s.blk.link l).reserved + 1) ++
        b1 (s.blk.rep l).queue.length ++
        flag (s.blk.link l).active.isSome ++ flag (s.blk.link l).staged.isSome ++
        b1 s.blk.tst.g ++ o1 s.blk.tst.pendingG ++ b1 s.blk.tst.pointer ++
        b1 s.blk.tst.kind.code ++
        b1 ((List.range 24).filter fun i => (s.blk.inst i).isSome).length ++
        b1 s.blk.wait.length ++ flag s.blk.prog.hold ++ o2 s.blk.prog.clock ++
        b1 s.blk.prog.entries.length⟩] }) ∧
      (t.blk.rep l).lost = false

/-- R24, R38, R65, R102, R123, R128 to R131, R146, R149, R160, R161, R167, R182, R184: every READ kind
but READ SIGNAL (below) is answered NOT_FOUND while no description is in force, BAD_VALUE above its
range, else DONE with the contents its owner gives, or NOT_FOUND where there are none; it changes
nothing. The codes of READ POINT's contact states, and the bytes of READ ENTRY's outcome, are the model's
reading (log entry 17). -/
def Obligations.ReadsAnswerContents : Prop :=
  ∀ (l : LinkId) (b : Byte) (s : State), Hears s l → (s.blk.link l).occupancy < 4 →
    let d := s.desc
    let y := s.blk
    let i := b.toNat
    let answers := fun (c : Instr) (kind : Byte) (max : Nat) (content : Option (List Byte)) =>
      ∃ t, exec c s = .next t ∧ OnlyAnswers s t l kind
        (if d.inForce = false then [0x30]
         else if max < i then [0x12]
         else match content with
           | none => [0x30]
           | some body => 0x00 :: body)
    answers (.readSection l b) 0x02 95 (if d.secInUse i = true then
      let v := y.sec i
      some (b1 (d.secKind i) ++ b1 (d.secArea i) ++ b1 (d.secInput i) ++ b1 v.occ.code ++
        b1 (if v.level = .clear then 0 else 1) ++ b1 (if v.healthy = true then 0 else 1) ++
        o2 v.timer ++ o1 v.owner ++ flag v.wasOccupied ++ flag v.releaseFault)
      else none) ∧
    answers (.readPoint l b) 0x03 47 (if d.ptInUse i = true then
      let p := y.pt i
      some (b1 (d.ptSec i) ++ b1 (d.ptChannel i) ++ b1 p.strokeRef ++ flag p.learned ++
        b1 p.count ++ b1 (if p.normalMade = true then 0 else 1) ++
        b1 (if p.reverseMade = true then 0 else 1) ++ b1 p.presented.code ++ b1 p.computed.code ++
        flag p.latch ++ b1 p.drive.code ++ o1 (p.target.map Position.code) ++
        o1 (p.phase.map LearnPhase.code) ++ o2 p.strokeTimer ++ o2 p.restTimer ++
        o2 p.learnTimer ++ o1 (if i ∈ y.queue then some (y.queue.idxOf i) else none) ++
        o1 p.routeOwner ++ o1 (p.routePos.map Position.code) ++ b1 p.flankCount ++
        o1 (p.flankPos.map Position.code) ++ flag p.blocked ++ flag p.underTest)
      else none) ∧
    answers (.readInstance l b) 0x05 23 ((y.inst i).map fun v =>
      let rt := d.route v.definition
      b1 v.definition ++ b1 (linkCode v.link) ++ o2 v.tram ++ o1 v.key ++ o2 v.movement ++
        o1 v.shortenedAt ++ b1 v.state.code ++ flag v.approachLocked ++
        b1 v.unreleased.length ++ v.unreleased.flatMap b1 ++ b1 v.releaseIndex ++ o2 v.timer ++
        o1 (v.stallCause.map StallCause.code) ++ o1 (v.stallCause.map StallCause.element) ++
        b1 rt.entrance ++ o1 (if v.shortenedAt = none then rt.exit else v.shortenedAt) ++
        flag (decide (0 < v.releaseIndex ∨ ∃ x ∈ v.unreleased, (y.sec x).wasOccupied = true))) ∧
    answers (.readRoad l b) 0x06 23 (if d.roadInUse i = true then
      let r := y.road i
      some (b2 (d.roadL i) ++ b1 (d.roadB i) ++ b1 (d.roadG i) ++ b1 (d.roadT i) ++
        b1 r.status.code ++ o1 (r.phase.map ArrivalPhase.code) ++ flag r.declared ++
        o1 (r.timer.map fun a => if a.kind = .hold then 0 else 1) ++ o2 (r.timer.map (·.remaining)) ++
        b1 r.stack.length ++ (r.stack.zipIdx.flatMap fun (e, n) =>
          b2 e.tram ++ b2 e.length ++ b1 e.state.code ++ b2 (recordStart d y i n)) ++
        b2 (recordStart d y i r.stack.length) ++
        b2 (d.roadL i - recordStart d y i r.stack.length) ++
        b1 (d.roadCells i).length ++ (d.roadCells i).zipIdx.flatMap fun (c, j) =>
          b1 c ++ b1 (y.sec c).occ.code ++ b1 (cellExpected d y i j) ++
            flag (decide ((y.sec c).occ = .disturbed ∨
              ((y.sec c).occ = .clear ∧ cellExpected d y i j = 0) ∨
              ((y.sec c).occ = .occupied ∧ cellExpected d y i j = 1))))
      else none) ∧
    answers (.readEntry l b) 0x07 63 (y.prog.entries[i]?.map fun e =>
      let live := fun (x : ProgEntry) => decide (x.state ≠ .done ∧ x.state ≠ .failed ∧
        x.state ≠ .skipped)
      b2 e.movement ++ b1 e.kind.code ++ b2 e.tram ++ b1 e.road ++ b1 e.definition ++
        o2 e.notBefore ++ flag e.auto ++ b1 e.state.code ++ flag e.tried ++
        outcomeBody e.outcome ++
        flag (decide (live e = true ∧ ((y.prog.entries.take i).filter live).length < d.window)) ++
        flag (match e.notBefore, y.prog.clock with
          | none, _ => true
          | some m, some c => decide (m ≤ c)
          | some _, none => false)) ∧
    answers (.readWaiting l b) 0x08 15 (y.wait[i]?.map fun e =>
      b1 e.definition ++ b1 (linkCode e.link) ++ b1 (if e.origin = .setRoute then 0 else
        if e.origin = .call then 1 else 2) ++ b1 (if e.stopShort = true then 3 else 1) ++
        b1 e.key ++ b2 e.tram ++ flag e.tried ++ b2 e.life) ∧
    answers (.readArea l b) 0x09 7 (
      let secs := (List.range 96).filter fun x => d.secInUse x && d.secArea x == i
      let pts := (List.range 48).filter fun p => d.ptInUse p && d.secArea (d.ptSec p) == i
      let locked := secs.filter fun x => (y.sec x).owner.isSome
      let busy := pts.filter fun p => decide ((y.pt p).drive ≠ .idle ∧ (y.pt p).drive ≠ .failed)
      some (b1 (y.area i).status.code ++ b1 (y.area i).key ++ b1 secs.length ++ b1 pts.length ++
        b1 locked.length ++ b1 busy.length ++ flag (decide (locked = [] ∧ busy = []))))

/-- R42: READ SIGNAL. -/
def Obligations.ReadSignalAnswer : Prop :=
  ∀ (l : LinkId) (g : Byte) (s : State), Hears s l → (s.blk.link l).occupancy < 4 →
    ∃ t, exec (.readSignal l g) s = .next t ∧ OnlyAnswers s t l 0x04
      (if s.desc.inForce = false then [0x30]
       else if 63 < g.toNat then [0x12]
       else if s.desc.sigKind g.toNat = 255 then [0x30]
       else [0x00] ++ b1 (s.desc.sigKind g.toNat) ++ b1 (s.desc.sigChannel g.toNat) ++
         b1 (s.blk.sig g.toNat).aspect.code ++ o1 (s.blk.sig g.toNat).owner)

/-! ### Loading -/

/-- R18, R19, R82: an OPEN LOAD is accepted in UNLOADED from any link, in LOADING from the loading
link as a restart, in RUNNING from the DESK link of an idle yard; Table 15's refusals change
nothing but the answer. -/
def Obligations.OpenLoadAccepted : Prop :=
  ∀ (l : LinkId) (s : State), CanSend s l 0x10 →
    (s.blk.mode = .unloaded ∨
      (s.blk.mode = .running ∧ (s.blk.link l).role = some .desk ∧
        YardIdle s.desc s.blk) →
      ∃ t, exec (.openLoad l) s = .next t ∧ t.desc = {} ∧ t.pins = s.pins ∧
        t.pending = s.pending ∧
        t.blk.yard = { Blocks.reset.yard with out := s.blk.out, ctl := { s.blk.ctl with
          mode := .loading, loadingLink := some l, idleTimer := some 600 } } ∧
        (∀ k, (t.blk.link k).role = none ∧ (t.blk.link k).areas = 0 ∧
          (t.blk.link k).subscription = 0 ∧ (t.blk.link k).active = (s.blk.link k).active ∧
          (t.blk.link k).staged = (s.blk.link k).staged ∧
          (t.blk.link k).flags = (s.blk.link k).flags) ∧
        (t.blk.link l).answers = (s.blk.link l).answers ++ [⟨0x10, [0x00]⟩] ∧
        (s.blk.mode = .unloaded → OnlyReport s t (fun _ => True) ⟨0xC8, [0, 0, 1]⟩) ∧
        (s.blk.mode = .running → OnlyReport s t
          (fun k => hasBit (s.blk.link k).subscription 7 = true) ⟨0xC8, [0, 3, 1]⟩)) ∧
    (s.blk.mode = .loading → s.blk.ctl.loadingLink = some l →
      ∃ t, exec (.openLoad l) s = .next t ∧ t.desc = {} ∧ t.pins = s.pins ∧
        t.pending = s.pending ∧ NoReport s t ∧
        t.blk.yard = { s.blk.yard with
          rot := .programme, ctl := { s.blk.ctl with idleTimer := some 600 } } ∧
        LinkMoves s t l fun u => { u with answers := u.answers ++ [⟨0x10, [0x00]⟩] }) ∧
    (s.blk.mode = .loading → s.blk.ctl.loadingLink ≠ some l →
      ∃ t, exec (.openLoad l) s = .next t ∧ OnlyAnswers s t l 0x10 [0x15]) ∧
    (s.blk.mode = .running → (s.blk.link l).role ≠ some .desk →
      ∃ t, exec (.openLoad l) s = .next t ∧ OnlyAnswers s t l 0x10 [0x13]) ∧
    (s.blk.mode = .running → (s.blk.link l).role = some .desk → ¬YardIdle s.desc s.blk →
      ∃ t, exec (.openLoad l) s = .next t ∧ OnlyAnswers s t l 0x10 [0x36]) ∧
    (s.blk.mode = .proving ∨ s.blk.mode = .quiet ∨ s.blk.mode = .waking →
      ∃ t, exec (.openLoad l) s = .next t ∧ OnlyAnswers s t l 0x10 (0x14 :: b1 s.blk.mode.code))

/-- R20: a LOAD BLOCK from the loading link whose table and range are right writes its bytes at
its offset, nothing outside them, and is answered DONE; with a wrong table or range it writes
nothing and is answered BAD_VALUE; both restart the idle timer. From another link it is
NOT_PERMITTED, in another mode WRONG_MODE. The address of a byte is the model's (log entry 21). -/
def Obligations.LoadBlockWrites : Prop :=
  ∀ (l : LinkId) (table : Byte) (offset : Half) (data : List Byte) (s : State),
    CanSend s l 0x11 → data.length ≤ 116 →
    let right := 1 ≤ table.toNat ∧ table.toNat ≤ 8 ∧
      offset.toNat + data.length ≤ tableSize table.toNat
    ∃ t, exec (.loadBlock l table offset data) s = .next t ∧
      (s.blk.mode = .loading → s.blk.ctl.loadingLink = some l →
        t.desc.inForce = s.desc.inForce ∧ t.pins = s.pins ∧ t.pending = s.pending ∧
        NoReport s t ∧
        t.blk.yard = { s.blk.yard with ctl := { s.blk.ctl with idleTimer := some 600 } } ∧
        (right →
          (∀ n, n < data.length →
            some (memRead t.desc.mem (descAddr table.toNat (offset.toNat + n))) = data[n]?) ∧
          (∀ a, (∀ n, n < data.length → a ≠ descAddr table.toNat (offset.toNat + n)) →
            memRead t.desc.mem a = memRead s.desc.mem a) ∧
          LinkMoves s t l fun u => { u with answers := u.answers ++ [⟨0x11, [0x00]⟩] }) ∧
        (¬right → t.desc = s.desc ∧
          LinkMoves s t l fun u => { u with answers := u.answers ++ [⟨0x11, [0x12]⟩] })) ∧
      (s.blk.mode = .loading → s.blk.ctl.loadingLink ≠ some l →
        OnlyAnswers s t l 0x11 [0x13]) ∧
      (s.blk.mode ≠ .loading → OnlyAnswers s t l 0x11 (0x14 :: b1 s.blk.mode.code))

/-- R21: a CLOSE LOAD of a valid description brings it into force: mode PROVING with its report, no
loading link, the links' records taken, sections and points as the field port presents them (R26,
R44), every in-use signal at STOP and commanded so (R39), answered DONE. With no clear timer
running the sections are settled at once and the proving step starts; else the watch for their
settlement does (R26, R73). A description that passes has sound route definitions (R14). That the
field port's pins stand in State is the model's choice (log entry 5). -/
def Obligations.CloseLoadBringsIntoForce : Prop :=
  (∀ (d : Desc) (r : Nat), validate d = none → d.rtLoaded r = true → RouteSound (d.route r)) ∧
  ∀ (l : LinkId) (s : State), CanSend s l 0x12 → s.blk.mode = .loading →
    s.blk.ctl.loadingLink = some l → validate s.desc = none →
    let settled := ∀ i, s.desc.secInUse i = true →
      (tabGet s.pins.inputs {} (s.desc.secInput i)).healthy = false ∨
        (tabGet s.pins.inputs {} (s.desc.secInput i)).level = .occupied
    ∃ t, exec (.closeLoad l) s = .next t ∧
      t.desc = { s.desc with inForce := true } ∧ t.pins = s.pins ∧ t.pending = s.pending ∧
      t.blk.mode = .proving ∧ t.blk.ctl.loadingLink = none ∧ t.blk.ctl.idleTimer = none ∧
      (∀ k, (t.blk.link k).role = some (roleOf (s.desc.linkRole k)) ∧
        (t.blk.link k).areas.toNat = s.desc.linkAreas k ∧
        (t.blk.link k).subscription.toNat = s.desc.linkSub k) ∧
      (t.blk.link l).answers = (s.blk.link l).answers ++ [⟨0x12, [0x00]⟩] ∧
      OnlyReport s t (fun k => (s.desc.linkSub k).testBit 7 = true) ⟨0xC8, [0, 1, 2]⟩ ∧
      (∀ i, s.desc.secInUse i = true →
        let p := tabGet s.pins.inputs {} (s.desc.secInput i)
        t.blk.sec i =
          { occ := if p.healthy = true then .occupied else .disturbed
            level := p.level, healthy := p.healthy
            timer := if p.healthy = true ∧ p.level = .clear then some s.desc.tClear else none
            owner := none, wasOccupied := false, releaseFault := false }) ∧
      (∀ i, s.desc.ptInUse i = true →
        let p := tabGet s.pins.channels {} (s.desc.ptChannel i)
        (t.blk.pt i).strokeRef = s.desc.ptStroke i ∧
        (t.blk.pt i).phaseA = p.levelA ∧ (t.blk.pt i).phaseB = p.levelB ∧
        (t.blk.pt i).refCount = (t.blk.pt i).count ∧
        (if p.normalMade = true ∧ p.reverseMade = false then
          (t.blk.pt i).count = 0 ∧ (t.blk.pt i).presented = .normal
         else if p.reverseMade = true ∧ p.normalMade = false then
          (t.blk.pt i).count = s.desc.ptStroke i ∧ (t.blk.pt i).presented = .reverse
         else (t.blk.pt i).count = s.desc.ptStroke i / 2 ∧ (t.blk.pt i).presented = .lost)) ∧
      (∀ g, s.desc.sigInUse g = true → t.blk.sig g = { aspect := .stop, owner := none } ∧
        .aspect (s.desc.sigChannel g) .stop ∈ t.blk.out) ∧
      (settled → t.blk.settleWatch = false ∧
        t.blk.tst = { s.blk.tst with kind := .proving, step := some 2 } ∧
        ∀ i, s.desc.ptInUse i = true → (t.blk.pt i).underTest = true ∧
          .testStart (s.desc.ptChannel i) ∈ t.blk.out) ∧
      (¬settled → t.blk.settleWatch = true ∧ t.blk.tst = s.blk.tst ∧
        ∀ i, s.desc.ptInUse i = true → (t.blk.pt i).underTest = false)

/-- R21, R22: a CLOSE LOAD that validation faults is answered LOAD_FAULT with table, record and
reason, and gives the load up; from another link it is NOT_PERMITTED, in another mode
WRONG_MODE. -/
def Obligations.CloseLoadRefused : Prop :=
  ∀ (l : LinkId) (s : State), CanSend s l 0x12 →
    (∀ table record reason, s.blk.mode = .loading → s.blk.ctl.loadingLink = some l →
      validate s.desc = some (table, record, reason) →
      ∃ t, exec (.closeLoad l) s = .next t ∧ t.desc = {} ∧
        t.blk.yard = { s.blk.yard with ctl := { s.blk.ctl with
          mode := .unloaded, loadingLink := none, idleTimer := none } } ∧
        LinkMoves s t l (fun u => { u with answers := u.answers ++
          [⟨0x12, [0x37] ++ b1 table ++ b1 record ++ b1 reason⟩] }) ∧
        ∀ k, Hears s k → (s.blk.rep k).queue.length < 16 → Posted t k ⟨0xC8, [0, 1, 0]⟩) ∧
    (s.blk.mode = .loading → s.blk.ctl.loadingLink ≠ some l →
      ∃ t, exec (.closeLoad l) s = .next t ∧ OnlyAnswers s t l 0x12 [0x13]) ∧
    (s.blk.mode ≠ .loading →
      ∃ t, exec (.closeLoad l) s = .next t ∧
        OnlyAnswers s t l 0x12 (0x14 :: b1 s.blk.mode.code))

/-! ### Route requests and the walker -/

/-- R80, R81: a SET ROUTE in RUNNING takes the active slot, else the staged slot, with a
reserved answer place, else is refused BUSY. -/
def Obligations.SetRouteTakesSlot : Prop :=
  ∀ (l : LinkId) (definition flags key : Byte) (tram : Half) (s : State),
    CanSend s l 0x20 → s.blk.mode = .running → definition.toNat ≤ 239 → flags.toNat ≤ 3 →
    key.toNat ≤ 15 → tram.toNat ≤ 9999 →
    ∃ t, exec (.setRoute l definition flags key tram 0) s = .next t ∧
      TakesSlot s t l
        { definition := definition.toNat, requester := .link l, origin := .setRoute
          store := flags.getLsbD 0, stopShort := flags.getLsbD 1, key := key.toNat
          tram := tram.toNat, movement := none }

/-- R80, R97: a SET ROUTE with STORE in PROVING or WAKING joins the waiting list at its end,
untried, and is answered STORED, or is refused DUPLICATE, then LIST_FULL. R80, R76, R24: a body out
of range is BAD_VALUE, but that it is not looked at in UNLOADED and LOADING; every other SET ROUTE
outside RUNNING is WRONG_MODE. -/
def Obligations.SetRouteStoredOutsideRunning : Prop :=
  (∀ (l : LinkId) (definition flags key : Byte) (tram : Half) (s : State),
    CanSend s l 0x20 → s.blk.mode = .proving ∨ s.blk.mode = .waking →
    definition.toNat ≤ 239 → flags.toNat = 1 ∨ flags.toNat = 3 → key.toNat ≤ 15 →
    tram.toNat ≤ 9999 →
    ∃ t, exec (.setRoute l definition flags key tram 0) s = .next t ∧
      if s.blk.wait.any (fun e => e.definition == definition.toNat) then
        OnlyAnswers s t l 0x20 [0x27]
      else if 16 ≤ s.blk.wait.length then OnlyAnswers s t l 0x20 [0x28]
      else
        AnswersWith s t l ⟨0x20, [0x01]⟩ ∧ NoReport s t ∧
        t.blk.yard = { s.blk.yard with wait := s.blk.wait ++
          [{ definition := definition.toNat, link := l, origin := .setRoute
             stopShort := decide (flags.toNat = 3), key := key.toNat, tram := tram.toNat
             tried := false, life := s.desc.tStore }] }) ∧
  (∀ (l : LinkId) (definition flags key : Byte) (tram : Half) (reserved : Byte) (s : State),
    CanSend s l 0x20 →
    let beyond := 239 < definition.toNat ∨ 3 < flags.toNat ∨ 15 < key.toNat ∨ 9999 < tram.toNat ∨
      reserved ≠ 0
    let loading := s.blk.mode = .unloaded ∨ s.blk.mode = .loading
    let closed := s.blk.mode = .quiet ∨
      ((s.blk.mode = .proving ∨ s.blk.mode = .waking) ∧ flags.getLsbD 0 = false)
    (¬loading → beyond → ∃ t, exec (.setRoute l definition flags key tram reserved) s = .next t ∧
      OnlyAnswers s t l 0x20 [0x12]) ∧
    (loading ∨ (closed ∧ ¬beyond) →
      ∃ t, exec (.setRoute l definition flags key tram reserved) s = .next t ∧
        OnlyAnswers s t l 0x20 (0x14 :: b1 s.blk.mode.code)))

/-- R83 to R96, R99, R104, R105, R122, R151: the walk of the requester whose turn it is, when it passes its
checks, whole or shortened, claims its route in the lowest free slot, OPEN at once where the claim
finds all that R104 requires. A link's request is answered with the slot, and the staged request
becomes active; a waiting entry leaves the list; a programme entry becomes RUNNING, with its PROGRAMME
report. The claim's own reports (R37, R94, R99, R145) are those of `Claimed`. Every walk
passes or fails. The definition is sound, as every definition in force is (R14, see
CloseLoadBringsIntoForce).
The bytes of absent fields of a report are the model's reading (log entry 17).
That the ROUTE report of a request without a tram gives 65535 is the model's choice (log entry 31). -/
def Obligations.WalkGrantClaimsRoute : Prop :=
  (∀ (d : Desc) (y : Blocks) (q : WalkRequest),
    ((∃ short, WalkPasses d y q short) ∨ ∃ f, WalkFails d y q f) ∧
    ∀ short f, WalkPasses d y q short → ¬WalkFails d y q f) ∧
  ∀ (slot : Nat) (short : Option (Nat × Nat)) (s : State), s.blk.mode = .running →
    slot < 24 → s.blk.inst slot = none → (∀ j, j < slot → s.blk.inst j ≠ none) →
    (∀ (l : LinkId) (q : WalkRequest), HasTurn s.blk (.link l) →
      (s.blk.link l).active = some q → (s.blk.link l).answers.length < 4 →
      RouteSound (s.desc.route q.definition) → WalkPasses s.desc s.blk q short →
      ∃ t, exec .walkGrant s = .next t ∧
        Claimed s t q l slot short (if short.isSome then 1 else 0) none ∧ t.blk.rot = .link l ∧
        MayOffer s.blk.prog.entries t.blk.prog.entries ∧
        ∀ k, (t.blk.link k).still =
          if k = l then { (s.blk.link l).still with
            active := (s.blk.link l).staged, staged := none
            reserved := (s.blk.link l).reserved - 1
            answers := (s.blk.link l).answers ++
              [⟨q.origin.kind, match short with
                | none => 0x00 :: b1 slot
                | some (g, _) => 0x02 :: (b1 slot ++ b1 g)⟩] }
          else (s.blk.link k).still) ∧
    (∀ e : WaitEntry, HasTurn s.blk .waiting →
      (s.blk.wait.find? fun x => !x.tried) = some e →
      let q : WalkRequest :=
        { definition := e.definition, requester := .link e.link, origin := e.origin
          store := true, stopShort := e.stopShort, key := e.key, tram := e.tram, movement := none }
      RouteSound (s.desc.route e.definition) → WalkPasses s.desc s.blk q short →
      ∃ t, exec .walkGrant s = .next t ∧
        Claimed s t q e.link slot short 2 (some e.link) ∧
        t.blk.rot = .waiting ∧ LinksKept s t ∧
        MayOffer s.blk.prog.entries t.blk.prog.entries ∧
        t.blk.wait.map (fun x => { x with tried := false }) =
          (s.blk.wait.filter fun x => x.definition != e.definition).map
            (fun x => { x with tried := false })) ∧
    (∀ (i : Nat) (e : ProgEntry) (l : LinkId), HasTurn s.blk .programme →
      (s.blk.prog.entries.findIdx? fun x => x.state == .dispatched) = some i →
      s.blk.prog.entries[i]? = some e →
      (links3.find? fun k => (s.blk.link k).role == some .planner) = some l →
      let q : WalkRequest :=
        { definition := e.definition, requester := .programme, origin := .programme
          store := false, stopShort := false, key := 0, tram := e.tram
          movement := some e.movement }
      RouteSound (s.desc.route e.definition) → WalkPasses s.desc s.blk q short →
      ∃ t, exec .walkGrant s = .next t ∧
        Claimed s t q l slot short (if short.isSome then 1 else 0) none ∧
        t.blk.rot = .programme ∧ LinksKept s t ∧
        Told s t .programme 1 (entryFrame e .dispatched .running (some slot) none) ∧
        MayOffer (s.blk.prog.entries.set i { e with state := .running, outcome := none })
          t.blk.prog.entries)

/-- R83 to R91, R96, R97, R99, R151: with no requester ready a grant changes nothing; a walk that fails a
check claims nothing. A link's request is
answered with the failure and its data, or, stored, joins the waiting list: a transient failure in
RUNNING as an entry tried, a request left in a slot in PROVING or WAKING untried; any other request
outside RUNNING is answered WRONG_MODE. A waiting entry is marked tried, or leaves the list with a
ROUTE report STORE_FAILED; a programme entry goes back to CALLED, tried, or becomes FAILED with its
PROGRAMME report, and one CALLED entry whose tried mark is clear may be offered. The bytes of absent
fields of a report are the model's reading (log entry 17); that STORE_FAILED gives the tram of the
entry, 0 for a request without one, is the model's choice (log entry 31), and so is that
a CALL's request walked in PROVING or WAKING joins the waiting list, by R84, where R97 names only a SET
ROUTE (log entry 35). -/
def Obligations.FailedWalkHasNoEffect : Prop :=
  (∀ s : State, (∀ u, ¬Ready s.blk u) → ∃ t, exec .walkGrant s = .next t ∧ Unmoved s t) ∧
  (∀ (l : LinkId) (q : WalkRequest) (s : State), HasTurn s.blk (.link l) →
    (s.blk.link l).active = some q → (s.blk.link l).answers.length < 4 →
    let answered := fun (t : State) (body : List Byte) => OnlyBlocks s t ∧ NoReport s t ∧
      ∀ k, (t.blk.link k).still =
        if k = l then { (s.blk.link l).still with
          active := (s.blk.link l).staged, staged := none
          reserved := (s.blk.link l).reserved - 1
          answers := (s.blk.link l).answers ++ [⟨q.origin.kind, body⟩] }
        else (s.blk.link k).still
    let refused := fun (t : State) (body : List Byte) => answered t body ∧
      t.blk.yard = { s.blk.yard with rot := .link l }
    let stored := fun (t : State) (tried : Bool) =>
      if s.blk.wait.any (fun e => e.definition == q.definition) then refused t [0x27]
      else if 16 ≤ s.blk.wait.length then refused t [0x28]
      else answered t [0x01] ∧ t.blk.yard = { s.blk.yard with
        rot := .link l
        wait := s.blk.wait ++
          [{ definition := q.definition, link := l, origin := q.origin, stopShort := q.stopShort
             key := q.key, tram := q.tram, tried := tried, life := s.desc.tStore }] }
    ∃ t, exec .walkGrant s = .next t ∧
      (∀ f, s.blk.mode = .running → WalkFails s.desc s.blk q f →
        (q.store = true ∧ Transient q.origin f → stored t true) ∧
        (¬(q.store = true ∧ Transient q.origin f) → refused t f.body)) ∧
      (s.blk.mode ≠ .running →
        if (s.blk.mode = .proving ∨ s.blk.mode = .waking) ∧ q.store = true then stored t false
        else refused t (0x14 :: b1 s.blk.mode.code))) ∧
  (∀ (e : WaitEntry) (f : Failure) (s : State), HasTurn s.blk .waiting →
    (s.blk.wait.find? fun x => !x.tried) = some e →
    WalkFails s.desc s.blk
      { definition := e.definition, requester := .link e.link, origin := e.origin
        store := true, stopShort := e.stopShort, key := e.key, tram := e.tram
        movement := none } f →
    ∃ t, exec .walkGrant s = .next t ∧ OnlyBlocks s t ∧ LinksKept s t ∧
      (Transient e.origin f → NoReport s t ∧ t.blk.yard = { s.blk.yard with
        rot := .waiting
        wait := s.blk.wait.map fun x =>
          if x.definition = e.definition then { x with tried := true } else x }) ∧
      (¬Transient e.origin f →
        t.blk.yard = { s.blk.yard with
          rot := .waiting, wait := s.blk.wait.filter fun x => x.definition != e.definition } ∧
        OnlyReport s t (fun k => k = e.link ∨ hasBit (s.blk.link k).subscription 0 = true)
          ⟨0xC1, b1 3 ++ b1 255 ++ b1 e.definition ++ b1 (linkCode e.link) ++ b2 e.tram ++
            b2 65535 ++ f.body⟩)) ∧
  (∀ (i : Nat) (e : ProgEntry) (f : Failure) (s : State), HasTurn s.blk .programme →
    (s.blk.prog.entries.findIdx? fun x => x.state == .dispatched) = some i →
    s.blk.prog.entries[i]? = some e →
    WalkFails s.desc s.blk
      { definition := e.definition, requester := .programme, origin := .programme
        store := false, stopShort := false, key := 0, tram := e.tram
        movement := some e.movement } f →
    ∃ t, exec .walkGrant s = .next t ∧ OnlyBlocks s t ∧ LinksKept s t ∧
      t.blk.yard = { s.blk.yard with
        rot := .programme, prog := { s.blk.prog with entries := t.blk.prog.entries } } ∧
      (Transient .programme f → NoReport s t ∧
        Offered s.desc s.blk.prog
          (s.blk.prog.entries.set i { e with state := .called, tried := true })
          t.blk.prog.entries) ∧
      (¬Transient .programme f →
        Offered s.desc s.blk.prog
          (s.blk.prog.entries.set i { e with state := .failed, outcome := some (.walk f) })
          t.blk.prog.entries ∧
        OnlyReport s t (fun k => hasBit (s.blk.link k).subscription 4 = true)
          ⟨0xC5, b1 0 ++ b2 e.movement ++ b1 e.kind.code ++ b2 e.tram ++ b1 e.road ++ b1 2 ++
            b1 5 ++ b1 255 ++ f.body⟩))

/-- R100: the life timer's expiry removes the entry; a ROUTE report EXPIRED goes to the
subscribing links and to the requester link. R101: WITHDRAW in RUNNING. R175: a link that holds 16
reports drops the report and sets REPORTS_LOST. That EXPIRED and WITHDRAWN give the tram of the entry,
0 for a request without one, is the model's choice (log entry 31). -/
def Obligations.WaitingEntriesRemoved : Prop :=
  (∀ (definition : Nat) (e : WaitEntry) (s : State), s.desc.inForce = true →
      (s.blk.wait.find? fun x => x.definition == definition) = some e →
      ∃ t, exec (.lifeTimerExpiry definition) s = .next t ∧ OnlyBlocks s t ∧
        t.blk.yard = { s.blk.yard with
          wait := s.blk.wait.filter fun x => x.definition != definition } ∧
        LinksKept s t ∧
        OnlyReport s t (fun k => k = e.link ∨ hasBit (s.blk.link k).subscription 0 = true)
          ⟨0xC1, b1 4 ++ b1 255 ++ b1 definition ++ b1 (linkCode e.link) ++ b2 e.tram ++
            b2 65535⟩) ∧
  (∀ (l : LinkId) (definition : Byte) (s : State), CanSend s l 0x24 → s.blk.mode = .running →
      ∃ t, exec (.withdraw l definition) s = .next t ∧
        if 239 < definition.toNat then OnlyAnswers s t l 0x24 [0x12]
        else match s.blk.wait.find? fun x => x.definition == definition.toNat with
          | none => OnlyAnswers s t l 0x24 [0x30]
          | some e =>
            if (s.blk.link l).role = some .desk ∨ e.link = l then
              AnswersWith s t l ⟨0x24, [0x00]⟩ ∧
              t.blk.yard = { s.blk.yard with
                wait := s.blk.wait.filter fun x => x.definition != definition.toNat } ∧
              OnlyReport s t (fun k => k = e.link ∨ hasBit (s.blk.link k).subscription 0 = true)
                ⟨0xC1, b1 5 ++ b1 255 ++ b1 e.definition ++ b1 (linkCode e.link) ++
                  b2 e.tram ++ b2 65535⟩
            else OnlyAnswers s t l 0x24 [0x13])

/-! ### Route instances -/

/-- R116, R117, R118, R122, R55, R58, R138, R153: CANCEL ROUTE: BAD_VALUE for a signal above 63, NOT_FOUND
for one not in use or owned by no live instance. On the owner of a signal: the whole release at once, which
gives up the section, point and flank locks and withdraws the queued drives so left without a lock, gives
up the reservation of a road that the instance holds and fails the RUNNING entry of its movement;
or CANCELLING for T_approach with the signal at STOP and a STATE report, or a refusal. That an OPEN instance counts as
approach-locked whatever its flag is the model's reading (log entry 25).
The bytes of absent fields of a report are the model's reading (log entry 17). -/
def Obligations.CancelRouteByState : Prop :=
  (∀ (l : LinkId) (g : Byte) (s : State), CanSend s l 0x21 → s.blk.mode = .running →
    ∃ t, exec (.cancelRoute l g) s = .next t ∧
      (63 < g.toNat → OnlyAnswers s t l 0x21 [0x12]) ∧
      (g.toNat ≤ 63 →
        s.desc.sigInUse g.toNat = false ∨
          (∀ slot, (s.blk.sig g.toNat).owner = some slot → s.blk.inst slot = none) →
        OnlyAnswers s t l 0x21 [0x30])) ∧
  ∀ (l : LinkId) (g : Byte) (slot : Nat) (v : RouteInst) (s : State), CanSend s l 0x21 →
    s.blk.mode = .running → g.toNat ≤ 63 → s.desc.sigInUse g.toNat = true →
    (s.blk.sig g.toNat).owner = some slot → s.blk.inst slot = some v →
    ∃ t, exec (.cancelRoute l g) s = .next t ∧ OnlyBlocks s t ∧
      let entrance := (s.desc.route v.definition).entrance
      let cancelling := { v with state := .cancelling, timer := some s.desc.tApproach }
      let live := v.state = .setting ∨ v.state = .opened ∨
        (v.state = .stalled ∧ ¬HasEntered s.blk v)
      let atOnce := (v.state ≠ .opened ∧ v.approachLocked = false) ∨
        ∃ a, (s.desc.route v.definition).approach = some a ∧ (s.blk.sec a).occ = .clear
      (live → atOnce →
        (t.blk.link l).answers = (s.blk.link l).answers ++ [⟨0x21, [0x00]⟩] ∧
        WholeRelease s t slot v .cancelled ∧ ReservationGivenUp s t v ∧ MovementCancelled s t v) ∧
      (live → ¬atOnce →
        (t.blk.link l).answers = (s.blk.link l).answers ++ [⟨0x21, [0x00]⟩] ∧
        t.blk.insts = tabSet s.blk.insts slot (some cancelling) ∧
        t.blk.yard = { s.blk.yard with
          insts := t.blk.insts, sigs := t.blk.sigs, out := t.blk.out } ∧
        (v.state = .opened → (t.blk.sig entrance).aspect = .stop) ∧
        (∀ h, (t.blk.sig h).owner = (s.blk.sig h).owner) ∧
        OnlyReport s t (fun k => hasBit (s.blk.link k).subscription 0 = true)
          (stateFrame s.desc slot v.state cancelling
            (if v.state = .opened then .stop else (s.blk.sig entrance).aspect))) ∧
      (v.state = .entered ∨ v.state = .cancelling ∨
        (v.state = .stalled ∧ HasEntered s.blk v) →
        OnlyAnswers s t l 0x21 [0x31]) ∧
      (v.state = .handReleasing → OnlyAnswers s t l 0x21 [0x35])

/-- R117, R119, R120: HAND RELEASE and RETRY ROUTE: BAD_VALUE for a signal above 63, NOT_FOUND for one not in
use or owned by no live instance. R120: HAND RELEASE on the owner of a signal, with its STATE report. R119,
R49, R50, R93: RETRY ROUTE on the owner of a signal: refused, or each point to be commanded is at, or is
driven to, the position in which it is required; a point neither commanded nor queued stands; behind full
slots the points whose drive was at rest join the drive queue in the order of R93. A drive command to a
point that is LEARNING is not taken, the sources giving it no effect (R49). R119, R104, R105, R122: the
instance is back in SETTING, and OPEN at once, its signal at PROCEED, where every point it holds is detected
as it requires and its unreleased sections are CLEAR; each change has its STATE report, behind those of
other instances that a drive command stalls. A definition in force has its entrance below 64 (R14).
The bytes of absent fields of a report are the model's reading (log entry 17). -/
def Obligations.HandReleaseAndRetryByState : Prop :=
  let commanded := fun (s : State) (slot : Nat) (v : RouteInst) (p : Nat) (x : Position) =>
    let rt := s.desc.route v.definition
    (s.blk.pt p).presented.isAt x = false ∧
    (((p, x) ∈ rt.points ∧ s.desc.ptSec p ∈ v.unreleased) ∨
      ((∃ w, (p, x, w) ∈ rt.flanks ∧ v.releaseIndex ≤ w ∧ ClaimedFlank rt v w) ∧
        ((s.blk.pt p).routeOwner = none ∨ (s.blk.pt p).routeOwner = some slot)))
  (∀ (c : Instr) (kind g : Byte) (l : LinkId) (s : State),
      (c = .handRelease l g ∧ kind = 0x22) ∨ (c = .retryRoute l g ∧ kind = 0x23) →
      CanSend s l kind → s.blk.mode = .running →
      ∃ t, exec c s = .next t ∧
        (63 < g.toNat → OnlyAnswers s t l kind [0x12]) ∧
        (g.toNat ≤ 63 →
          s.desc.sigInUse g.toNat = false ∨
            (∀ slot, (s.blk.sig g.toNat).owner = some slot → s.blk.inst slot = none) →
          OnlyAnswers s t l kind [0x30])) ∧
  (∀ (l : LinkId) (g : Byte) (slot : Nat) (v : RouteInst) (s : State), CanSend s l 0x22 →
      s.blk.mode = .running → g.toNat ≤ 63 → s.desc.sigInUse g.toNat = true →
      (s.blk.sig g.toNat).owner = some slot → s.blk.inst slot = some v →
      let releasing := { v with state := .handReleasing, timer := some s.desc.tApproach }
      ∃ t, exec (.handRelease l g) s = .next t ∧
        if v.state = .entered ∨ v.state = .stalled then
          AnswersWith s t l ⟨0x22, [0x00]⟩ ∧
          t.blk.yard = setInst slot (some releasing) s.blk.yard ∧
          OnlyReport s t (fun k => hasBit (s.blk.link k).subscription 0 = true)
            (stateFrame s.desc slot v.state releasing
              (s.blk.sig (s.desc.route v.definition).entrance).aspect)
        else OnlyAnswers s t l 0x22 [0x35]) ∧
  (∀ (l : LinkId) (g : Byte) (slot : Nat) (v : RouteInst) (s : State), CanSend s l 0x23 →
      s.blk.mode = .running → g.toNat ≤ 63 → s.desc.sigInUse g.toNat = true →
      (s.blk.sig g.toNat).owner = some slot → s.blk.inst slot = some v →
      ∃ t, exec (.retryRoute l g) s = .next t ∧ OnlyBlocks s t ∧
        let rt := s.desc.route v.definition
        let setting := { v with state := .setting, stallCause := none }
        let opened := { setting with state := .opened, approachLocked := true }
        let alone := ∀ j, j ≠ slot → s.blk.inst j = none
        let busy := ∃ p x, commanded s slot v p x ∧ (s.blk.sec (s.desc.ptSec p)).occ ≠ .clear
        (v.state ≠ .stalled → OnlyAnswers s t l 0x23 [0x30]) ∧
        (v.state = .stalled → HasEntered s.blk v → OnlyAnswers s t l 0x23 [0x31]) ∧
        (v.state = .stalled → ¬HasEntered s.blk v → busy → OnlyAnswers s t l 0x23 [0x33]) ∧
        (v.state = .stalled → ¬HasEntered s.blk v → ¬busy →
          (t.blk.link l).answers = (s.blk.link l).answers ++ [⟨0x23, [0x00]⟩] ∧
          (Proved s.desc t.blk v → t.blk.inst slot = some opened ∧
            (rt.entrance < 64 → (t.blk.sig rt.entrance).aspect = .proceed ∧
              Reaches s t .route (stateFrame s.desc slot .setting opened .proceed) ∧
              (alone → Told s t .route 2 (stateFrame s.desc slot .setting opened .proceed)))) ∧
          (¬Proved s.desc t.blk v → t.blk.inst slot = some setting ∧
            (SoleUser s slot v →
              (t.blk.sig rt.entrance).aspect = (s.blk.sig rt.entrance).aspect)) ∧
          (let back := stateFrame s.desc slot .stalled setting (s.blk.sig rt.entrance).aspect
           (SoleUser s slot v → Reaches s t .route back) ∧ (alone → Told s t .route 1 back)) ∧
          (∀ p x, p < 48 → commanded s slot v p x → (∀ x', commanded s slot v p x' → x' = x) →
            p ∉ s.blk.queue → (s.blk.pt p).drive ≠ .learning →
            (t.blk.pt p).presented.isAt x = true ∨ (t.blk.pt p).target = some x) ∧
          (∀ p, (∀ x, ¬commanded s slot v p x) → p ∉ s.blk.queue → t.blk.pt p = s.blk.pt p) ∧
          (s.desc.driveLimit ≤ s.blk.slots →
            (rt.points.map (·.1) ++ rt.flanks.map (·.1)).Nodup →
            t.blk.slots = s.blk.slots ∧
            ∃ ps, List.Sublist ps (rt.points ++ rt.flanks.map fun c => (c.1, c.2.1)) ∧
              (∀ c, c ∈ ps ↔ commanded s slot v c.1 c.2 ∧
                ((s.blk.pt c.1).drive = .idle ∨ (s.blk.pt c.1).drive = .failed)) ∧
              t.blk.queue = s.blk.queue ++ ps.map (·.1)) ∧
          (s.desc.driveLimit ≤ s.blk.slots ∨ (∀ j ∈ s.blk.queue, (s.blk.pt j).underTest = true) →
            s.desc.driveLimit ≤ t.blk.slots ∨ ∀ j ∈ t.blk.queue, (t.blk.pt j).underTest = true) ∧
          (∀ j, j ≠ slot → s.blk.inst j = none → t.blk.inst j = none) ∧
          (∀ h, (t.blk.sig h).owner = (s.blk.sig h).owner) ∧
          t.blk.secs = s.blk.secs ∧ t.blk.roads = s.blk.roads ∧ t.blk.ctl = s.blk.ctl ∧
          t.blk.tst = s.blk.tst ∧ t.blk.rot = s.blk.rot ∧ t.blk.fleet = s.blk.fleet))

/-- R116, R118, R121, R55, R58, R114, R138, R153: the expiry of an instance's timer in CANCELLING or
HAND_RELEASING frees the slot, unlocks its sections and no other, route-unlocks its points and releases its
flanks, withdraws the queued drives so left without a lock, and takes its entrance signal, and no other, to
STOP and out of its hands. It gives up the reservation of a road that the instance holds, but after a hand
release of an entered instance (RoadTimersDisagree says what the road then takes); a cancel fails the
RUNNING entry of its movement. With the timer stopped nothing changes. The expiry of a stopped timer is the
model's own case (log entry 2).
The bytes of absent fields of a report are the model's reading (log entry 17). -/
def Obligations.InstanceTimersReleaseWhole : Prop :=
  ∀ (slot : Nat) (v : RouteInst) (s : State), s.desc.inForce = true →
    s.blk.inst slot = some v →
    (v.state = .cancelling → v.timer.isSome = true →
      ∃ t, exec (.approachTimerExpiry slot) s = .next t ∧ OnlyBlocks s t ∧ LinksKept s t ∧
        WholeRelease s t slot v .cancelled ∧ ReservationGivenUp s t v ∧ MovementCancelled s t v) ∧
    (v.state = .handReleasing → v.timer.isSome = true →
      ∃ t, exec (.handReleaseTimerExpiry slot) s = .next t ∧ OnlyBlocks s t ∧ LinksKept s t ∧
        WholeRelease s t slot v .handReleased ∧
        (¬HasEntered s.blk v → ReservationGivenUp s t v) ∧
        ∀ r, ¬HoldsRoad s.desc v r → t.blk.road r = s.blk.road r) ∧
    (v.timer = none →
      (∃ t, exec (.approachTimerExpiry slot) s = .next t ∧ Unmoved s t) ∧
      ∃ t, exec (.handReleaseTimerExpiry slot) s = .next t ∧ Unmoved s t)

/-! ### Sections -/

/-- R27, R28, R29, R31, R32: the input and health events of an in-use section while a description
is in force; every other section and every other input stays as it was. R33, R37: a change of occupancy
posts the SECTION report OCCUPANCY, with owner and marks from before the instance takes the change (the
model's reading, log entry 11); without one there is no report. R33, R54: a POINT section that
so ceases to be CLEAR withdraws the drives and learnings that have not moved a point of it; no other
change of occupancy moves a point. That a slot so freed is granted only when every point of the section
has taken the change, so that each of its queued points is withdrawn, is the model's reading (log entry
11), and so is the reference count that a learning withdrawn in WAITING sets (log entry 14). -/
def Obligations.FieldInputsMoveOccupancy : Prop :=
  ∀ (n i : Nat) (v : Level) (s : State), s.desc.inForce = true →
    s.desc.secOfInput n = some i →
    let old := s.blk.sec i
    let kept := fun (t : State) => t.desc = s.desc ∧ LinksKept s t ∧
      t.pins.channels = s.pins.channels ∧ t.pending = s.pending ∧
      (∀ m, m ≠ n → tabGet t.pins.inputs {} m = tabGet s.pins.inputs {} m) ∧
      (∀ x, x ≠ i → (t.blk.sec x).occ = (s.blk.sec x).occ ∧
        (t.blk.sec x).level = (s.blk.sec x).level ∧
        (t.blk.sec x).healthy = (s.blk.sec x).healthy ∧
        (t.blk.sec x).timer = (s.blk.sec x).timer) ∧
      t.blk.ctl = s.blk.ctl ∧ t.blk.rot = s.blk.rot ∧ t.blk.fleet = s.blk.fleet
    let tells := fun (t : State) => if (t.blk.sec i).occ = old.occ then NoReport s t else
      Told s t .sect 1 (sectionFrame 0 i old.occ { old with occ := (t.blk.sec i).occ })
    let points := fun (t : State) (new : Occupancy) =>
      if s.desc.secKind i = 1 ∧ old.occ = .clear ∧ new ≠ .clear then Withdraws s t i
      else s.blk.settleWatch = false → t.blk.pts = s.blk.pts ∧ t.blk.queue = s.blk.queue ∧
        t.blk.slots = s.blk.slots
    let started := if old.timer = none then some s.desc.tClear else old.timer
    (∃ t, exec (.inputOccupied n) s = .next t ∧ kept t ∧ tells t ∧ points t (t.blk.sec i).occ ∧
      (t.blk.sec i).level = .occupied ∧ (t.blk.sec i).healthy = old.healthy ∧
      (old.occ = .clear → (t.blk.sec i).occ = .occupied) ∧
      (old.occ = .occupied → (t.blk.sec i).occ = .occupied ∧ (t.blk.sec i).timer = none) ∧
      (old.occ = .disturbed → (t.blk.sec i).occ = .disturbed)) ∧
    (∃ t, exec (.inputClear n) s = .next t ∧ kept t ∧ tells t ∧ points t old.occ ∧
      (t.blk.sec i).level = .clear ∧ (t.blk.sec i).healthy = old.healthy ∧
      (t.blk.sec i).occ = old.occ ∧
      (t.blk.sec i).timer = (if old.occ = .occupied then started else old.timer)) ∧
    (∃ t, exec (.healthFault n) s = .next t ∧ kept t ∧ tells t ∧ points t .disturbed ∧
      (t.blk.sec i).healthy = false ∧ (t.blk.sec i).level = old.level ∧
      (t.blk.sec i).occ = .disturbed ∧
      (old.occ ≠ .disturbed → (t.blk.sec i).timer = none)) ∧
    (∃ t, exec (.healthReturn n v) s = .next t ∧ kept t ∧ tells t ∧ points t (t.blk.sec i).occ ∧
      (t.blk.sec i).healthy = true ∧ (t.blk.sec i).level = v ∧
      (old.occ = .disturbed → (t.blk.sec i).occ = .occupied ∧
        (t.blk.sec i).timer = (if v = .clear then some s.desc.tClear else none)) ∧
      (old.occ = .clear → (t.blk.sec i).occ = (if v = .clear then .clear else .occupied)) ∧
      (old.occ = .occupied → (t.blk.sec i).occ = .occupied ∧
        (t.blk.sec i).timer = (if v = .clear then started else none)))

/-- R5, R27, R69: an event on an input that no in-use section names, a report on a channel that no
in-use point names, and every one of them while no description is in force, changes nothing but
what the field port presents. That the field port's pins stand in State is the model's choice (log
entry 5). -/
def Obligations.UnnamedFieldEventsDiscarded : Prop :=
  ∀ (n : Nat) (v : Level) (a b : Bool) (o : TestOutcome) (step : SentFor) (c : Instr) (s : State),
    ((s.desc.inForce = false ∨ s.desc.secOfInput n = none) ∧
      (c = .inputOccupied n ∨ c = .inputClear n ∨ c = .healthFault n ∨ c = .healthReturn n v)) ∨
    ((s.desc.inForce = false ∨ s.desc.ptOfChannel n = none) ∧
      (c = .phaseReport n a b ∨ c = .contactReport n a b ∨ c = .testOutcomeReport n ⟨o, step⟩)) →
    ∃ t, exec c s = .next t ∧ t.desc = s.desc ∧ t.pending = s.pending ∧
      t.blk.yard = s.blk.yard ∧ LinksKept s t ∧ NoReport s t

/-- R30, R37: the clear timer's expiry makes the section CLEAR, with the SECTION report OCCUPANCY, its owner
and marks from before the instance takes the change (the model's reading, log entry 11); while the timer is
stopped the section is left alone. R104, R105, R122: an instance in SETTING to which the section is locked is judged: it is OPEN,
its signal at PROCEED, where nothing else was wanting. The expiry of a stopped timer is the model's own
case (log entry 2).
The bytes of absent fields of a report are the model's reading (log entry 17). -/
def Obligations.ClearTimerExpiryClears : Prop :=
  ∀ (i : Nat) (s : State), s.desc.inForce = true →
    ∃ t, exec (.clearTimerExpiry i) s = .next t ∧ OnlyBlocks s t ∧ LinksKept s t ∧
      (∀ x, x ≠ i → (t.blk.sec x).occ = (s.blk.sec x).occ ∧
        (t.blk.sec x).timer = (s.blk.sec x).timer) ∧
      t.blk.ctl = s.blk.ctl ∧ t.blk.rot = s.blk.rot ∧ t.blk.fleet = s.blk.fleet ∧
      ((s.blk.sec i).timer.isSome = true →
        (t.blk.sec i).occ = .clear ∧ (t.blk.sec i).timer = none ∧
        (t.blk.sec i).level = (s.blk.sec i).level ∧
        Told s t .sect 1 (sectionFrame 0 i (s.blk.sec i).occ { s.blk.sec i with occ := .clear }) ∧
        ∀ slot v, (s.blk.sec i).owner = some slot → s.blk.inst slot = some v → v.state = .setting →
          Judged s t slot v ∧
          (Proved s.desc t.blk v → (s.desc.route v.definition).entrance < 64 →
            Told s t .route 1 (stateFrame s.desc slot .setting
              { v with state := .opened, approachLocked := true } .proceed))) ∧
      ((s.blk.sec i).timer = none → (t.blk.sec i).occ = (s.blk.sec i).occ)

/-- R35, R106 to R111, R118: the first unreleased section of an instance becomes OCCUPIED, by an input
occupied event or a health return. In OPEN the instance is ENTERED, its signal goes to STOP and the
section is marked; in CANCELLING it is ENTERED with its timer stopped, the section marked; in SETTING,
and in STALLED not entered, it is an entry at stop: STALLED, no mark; CANCELLING, SETTING and STALLED
raise ENTRY_AT_STOP. In ENTERED the section is marked; else nothing changes. Each change of the instance posts its STATE
report (R122). Another section becoming
OCCUPIED or DISTURBED, or the first one DISTURBED, is an intrusion in OPEN: INTRUSION is raised, the
instance is STALLED and its signal goes to STOP; in CANCELLING another section raises INTRUSION and
nothing else; in ENTERED an OCCUPIED one is marked. Where the change withdraws a drive (R54), an
instance in SETTING or ENTERED may be stalled by it in the same step.
The bytes of absent fields of a report are the model's reading (log entry 17). -/
def Obligations.EntryMovesInstance : Prop :=
  (∀ (c : Instr) (lvl : Level) (n i slot : Nat) (v : RouteInst) (s : State),
    s.desc.inForce = true → s.desc.secOfInput n = some i →
    (c = .inputOccupied n ∧ (s.blk.sec i).occ = .clear) ∨
      (c = .healthReturn n lvl ∧ ((s.blk.sec i).occ = .disturbed ∨
        ((s.blk.sec i).occ = .clear ∧ lvl = .occupied))) →
    (s.blk.sec i).owner = some slot → s.blk.inst slot = some v → v.unreleased.head? = some i →
    let g := (s.desc.route v.definition).entrance
    let soleUser := ∀ j w, j ≠ slot → s.blk.inst j = some w →
      (s.desc.route w.definition).entrance ≠ g
    let atStop := v.state = .setting ∨ (v.state = .stalled ∧ ¬HasEntered s.blk v)
    let becomes := fun (t : State) (w : RouteInst) => t.blk.inst slot = some w ∨
      ((∃ p, NotYetMoved s i p) ∧
        ∃ why, t.blk.inst slot = some { w with state := .stalled, stallCause := some why })
    let alarmed := fun (t : State) => ∀ k, Subscribes s .alarm k →
      Posted t k ⟨0xC7, b1 1 ++ b1 slot ++ b1 i ++ b1 g ++ o2 v.tram⟩
    let stated := fun (t : State) (w : RouteInst) (a : Aspect) =>
      Told s t .route 1 (stateFrame s.desc slot v.state w a)
    let entered := { v with state := .entered }
    let stopped := { v with state := .stalled, stallCause := some (.entryAtStop i) }
    ∃ t, exec c s = .next t ∧ t.desc = s.desc ∧ t.pending = s.pending ∧ LinksKept s t ∧
      (t.blk.sec i).occ = .occupied ∧ (t.blk.sec i).owner = some slot ∧
      (t.blk.sec i).releaseFault = (s.blk.sec i).releaseFault ∧
      (∀ x, x ≠ i → t.blk.sec x = s.blk.sec x) ∧
      (∀ h, (t.blk.sig h).owner = (s.blk.sig h).owner) ∧
      (t.blk.sec i).wasOccupied = (if v.state = .opened ∨ v.state = .cancelling ∨
        v.state = .entered then true else (s.blk.sec i).wasOccupied) ∧
      (v.state = .opened → becomes t entered ∧ stated t entered .stop ∧
        (soleUser → (t.blk.sig g).aspect = .stop)) ∧
      (v.state = .cancelling →
        becomes t { entered with timer := none } ∧ alarmed t ∧
        stated t { entered with timer := none } (s.blk.sig g).aspect) ∧
      (atStop → alarmed t ∧ t.blk.inst slot = some stopped ∧
        stated t stopped (s.blk.sig g).aspect) ∧
      (v.state = .entered → becomes t v) ∧
      (¬atStop → v.state ≠ .opened → v.state ≠ .cancelling → v.state ≠ .entered →
        t.blk.inst slot = some v)) ∧
  (∀ (c : Instr) (lvl : Level) (n i slot : Nat) (v : RouteInst) (new : Occupancy) (s : State),
    s.desc.inForce = true → s.desc.secOfInput n = some i →
    (c = .inputOccupied n ∧ (s.blk.sec i).occ = .clear ∧ new = .occupied) ∨
      (c = .healthFault n ∧ (s.blk.sec i).occ ≠ .disturbed ∧ new = .disturbed) ∨
      (c = .healthReturn n lvl ∧ ((s.blk.sec i).occ = .disturbed ∨
        ((s.blk.sec i).occ = .clear ∧ lvl = .occupied)) ∧ new = .occupied) →
    (s.blk.sec i).owner = some slot → s.blk.inst slot = some v → i ∈ v.unreleased →
    v.unreleased.head? ≠ some i ∨ new = .disturbed →
    let becomes := fun (t : State) => t.blk.inst slot = some v ∨
      ((∃ p, NotYetMoved s i p) ∧
        ∃ why, t.blk.inst slot = some { v with state := .stalled, stallCause := some why })
    let alarmed := fun (t : State) => ∀ k, Subscribes s .alarm k →
      Posted t k ⟨0xC7, b1 2 ++ b1 slot ++ b1 i⟩
    ∃ t, exec c s = .next t ∧ t.desc = s.desc ∧ t.pending = s.pending ∧ LinksKept s t ∧
      (t.blk.sec i).occ = new ∧ (t.blk.sec i).owner = some slot ∧
      (t.blk.sec i).releaseFault = (s.blk.sec i).releaseFault ∧
      (∀ x, x ≠ i → t.blk.sec x = s.blk.sec x) ∧
      (∀ h, (t.blk.sig h).owner = (s.blk.sig h).owner) ∧
      (t.blk.sec i).wasOccupied = (if v.state = .entered ∧ new = .occupied then true
        else (s.blk.sec i).wasOccupied) ∧
      (v.state = .opened → alarmed t ∧ StalledBy s t slot v (.intrusion i) ∧
        Told s t .route 1 (stateFrame s.desc slot .opened
          { v with state := .stalled, stallCause := some (.intrusion i) } .stop)) ∧
      (v.state = .cancelling → t.blk.inst slot = some v ∧
        (v.unreleased.head? ≠ some i → alarmed t)) ∧
      (v.state = .setting ∨ v.state = .entered → becomes t) ∧
      (v.state = .stalled ∨ v.state = .handReleasing → t.blk.inst slot = some v))

/-- R58, R112, R113, R114, R115, R135, R137, R152: a section of an ENTERED instance clears. The lowest
unreleased one,
marked, its next section occupied, is unlocked and leaves the list, its points are route-unlocked, the
flanks released with it lose one hold, and a departing origin road of which it is the mouth becomes
IDLE without the departed record, the entry of the programme that it finishes DONE; the last one, marked,
its road's outermost cell occupied where it has
a destination road, does so too, frees the slot and the signal, and the road of which it is the mouth
takes the notice: a reserved arrival completes where the road agrees, its entry DONE, else it is
SETTLING. Any other clearing is a release fault: the mark, the alarm RELEASE_FAULT, nothing
released. A section marked faulty already is not judged. The unlock and the fault post their SECTION reports
(R37), behind the report OCCUPANCY of the change; the road's notice its ROAD report (R145); the freeing the
ROUTE report RELEASED, manner SEQUENTIAL (R122).
The bytes of absent fields of a report are the model's reading (log entry 17). -/
def Obligations.SequentialReleaseUnlocks : Prop :=
  ∀ (i slot : Nat) (v : RouteInst) (s : State), s.desc.inForce = true →
    (s.blk.sec i).timer.isSome = true → (s.blk.sec i).owner = some slot →
    s.blk.inst slot = some v → v.state = .entered → i ∈ v.unreleased →
    let rt := s.desc.route v.definition
    let dest := if v.shortenedAt.isSome then none else rt.dest
    let marked := (s.blk.sec i).wasOccupied = true
    let busyCell := ∃ r c, dest = some r ∧ (s.desc.roadCells r).getLast? = some c ∧ c ≠ i ∧
      (s.blk.sec c).occ ≠ .clear
    let busyNext := ∃ n rest, v.unreleased = i :: n :: rest ∧ n ≠ i ∧ (s.blk.sec n).occ ≠ .clear
    let cleared := setSec i { s.blk.sec i with occ := .clear } s.blk
    let unlocked : SectionState := { s.blk.sec i with
      occ := .clear, timer := none, owner := none, wasOccupied := false, releaseFault := false }
    let faulty := { s.blk.sec i with occ := .clear, timer := none, releaseFault := true }
    let departed := fun (t : State) => ∀ r, r < 24 → rt.origin = some r →
      s.desc.roadMouth r = i → (s.blk.road r).status = .departing →
      BackIdle s.desc cleared t r
        { s.blk.road r with status := .idle, stack := (s.blk.road r).stack.dropLast } ∧
      ∀ x, (s.blk.road r).stack.getLast? = some x → Noticed s t .depart r x.tram .done none ∧
        Told s t .road 1 (roadFrame 4 s.desc t.blk r (b2 x.tram))
    let unlocks := fun (t : State) => t.blk.sec i = unlocked ∧
      Told s t .sect 2 (sectionFrame 2 i .clear unlocked)
    ∃ t, exec (.clearTimerExpiry i) s = .next t ∧ OnlyBlocks s t ∧ LinksKept s t ∧
      (∀ x, x ≠ i → t.blk.sec x = s.blk.sec x) ∧ (∀ j, j ≠ slot → t.blk.inst j = s.blk.inst j) ∧
      ((s.blk.sec i).releaseFault = true → t.blk.insts = s.blk.insts ∧
        t.blk.sec i = { s.blk.sec i with occ := .clear, timer := none }) ∧
      ((s.blk.sec i).releaseFault = false →
        (marked → busyNext → unlocks t ∧
          LocksGivenUp s t v [(i, v.releaseIndex)] ∧
          t.blk.inst slot = some { v with
            unreleased := v.unreleased.drop 1, releaseIndex := v.releaseIndex + 1 } ∧
          departed t) ∧
        (v.unreleased = [i] → marked → dest = none ∨ busyCell →
          unlocks t ∧ t.blk.inst slot = none ∧ Told s t .route 1 (routeFrame 7 slot v (b1 0)) ∧
          LocksGivenUp s t v [(i, v.releaseIndex)] ∧
          t.blk.sig rt.entrance = { aspect := .stop, owner := none } ∧
          (∀ h, h ≠ rt.entrance → t.blk.sig h = s.blk.sig h) ∧
          departed t ∧
          (∀ r, r < 24 → rt.origin = none → dest = some r → s.desc.roadMouth r = i →
            (s.blk.road r).status = .arriving → (s.blk.road r).phase = some .reserved →
            (RoadAgrees s.desc cleared r →
              BackIdle s.desc cleared t r { s.blk.road r with
                status := .idle, phase := none, timer := none
                stack := setTop .stabled (s.blk.road r).stack } ∧
              Told s t .road 1 (roadFrame 2 s.desc t.blk r []) ∧
              ∀ x, (s.blk.road r).stack.getLast? = some x →
                Noticed s t .arrive r x.tram .done none) ∧
            (¬RoadAgrees s.desc cleared r →
              t.blk.road r = { s.blk.road r with
                phase := some .settling, timer := some ⟨.arrive, s.desc.tArrive⟩ } ∧
              Told s t .road 1 (roadFrame 1 s.desc t.blk r []) ∧
              MayOffer s.blk.prog.entries t.blk.prog.entries))) ∧
        (∀ idx reason,
          (v.unreleased.head? = some i ∧ ¬marked ∧ idx = v.releaseIndex ∧ reason = 0) ∨
          (v.unreleased.head? = some i ∧ marked ∧ idx = v.releaseIndex ∧ reason = 1 ∧
            ¬busyNext ∧ ¬(v.unreleased = [i] ∧ (dest = none ∨ busyCell))) ∨
          (v.unreleased.head? ≠ some i ∧ idx = v.releaseIndex + v.unreleased.idxOf i ∧
            reason = 2) →
          t.blk.insts = s.blk.insts ∧
          t.blk.sec i = faulty ∧ Told s t .sect 2 (sectionFrame 3 i .clear faulty) ∧
          ∀ k, Subscribes s .alarm k →
            Posted t k ⟨0xC7, b1 3 ++ b1 slot ++ b1 i ++ b1 idx ++ b1 v.releaseIndex ++
              b1 reason⟩))

/-! ### Points -/

/-- R44 to R48, R50, R51, R57, R104 to R107: a phase report of an in-use point: the new levels are held; a
step toward reverse or toward normal moves the stroke count by one within 0 and S + 30; equal levels and a
phase fault leave it. A phase fault raises PHASE_FAULT and sets the latch, and the point is LOST. A step
that takes an unbidden point's count out of the window of its reference count raises UNBIDDEN_MOVE and
sets the excursion mark; one within the window clears it. A contact report: the contacts are held. After a
step and after a contact report, in every drive state but LEARNING, the detection is recomputed by drive
state, latch, contacts and count, with the mismatch mark and its alarm COUNT_MISMATCH; under test the
presented value is held. A drive in QUEUED, DEAD_TIME or DRIVING, the point not under test, that the contact
report, the step or the phase fault finds with its target's conditions met completes: one under way gives
its slot back, one that is queued leaves the queue. A queued drive that a free slot would be granted to is
left to R50.
A presented detection that leaves the position an OPEN or ENTERED instance requires, and an unbidden move
of a point it holds, stall the instance, its signal at STOP. A change of the presented detection, and a
completion, that no granted drive follows judges every instance in SETTING that holds the point: OPEN,
its signal at PROCEED, where all that it requires is found. That UNBIDDEN_MOVE and PHASE_FAULT stand
before a COUNT_MISMATCH of the same step, and so take the last place of a report queue, is the model's
order (log entry 11); that equal levels check no drive for completion is its choice (log entry 32). The
contact codes of COUNT_MISMATCH, made 0 and open 1, are its reading (log entry 17). -/
def Obligations.PointReportsMoveItems : Prop :=
  ∀ (n i : Nat) (a b : Bool) (s : State), s.desc.inForce = true →
    s.desc.ptOfChannel n = some i →
    let p := s.blk.pt i
    let byContacts := fun (normal reverse : Bool) (count : Nat) =>
      if normal = true ∧ reverse = false ∧ count ≤ s.desc.tolC then Detection.normal
      else if reverse = true ∧ normal = false ∧ p.strokeRef ≤ count + s.desc.tolC then .reverse
      else if normal = false ∧ reverse = false ∧ (p.drive = .deadTime ∨ p.drive = .driving) then
        .moving
      else .lost
    let judged := fun (v : Detection) =>
      if p.drive = .learning then Detection.learning else if p.latch = true then .lost else v
    let shows := fun (v : Detection) => if p.underTest = true then p.presented else v
    let mismatched := fun (normal reverse : Bool) (count : Nat) =>
      (normal = true ∧ reverse = true) ∨ (normal = true ∧ s.desc.tolC < count) ∨
        (reverse = true ∧ count + s.desc.tolC < p.strokeRef)
    let still := a = p.phaseA ∧ b = p.phaseB
    let fault := a ≠ p.phaseA ∧ b ≠ p.phaseB
    let moved := if still ∨ fault then p.count
      else if (p.phaseA, p.phaseB, a, b) ∈
          [(false, false, true, false), (true, false, true, true), (true, true, false, true),
           (false, true, false, false)] then
        min (p.count + 1) (p.strokeRef + 30)
      else p.count - 1
    let resting := p.drive = .idle ∨ p.drive = .failed
    let underWay := p.drive = .deadTime ∨ p.drive = .driving
    let far := p.refCount + s.desc.tolC < moved ∨ moved + s.desc.tolC < p.refCount
    let reached := fun (normal reverse : Bool) (count : Nat) =>
      ∃ x, p.target = some x ∧ (byContacts normal reverse count).isAt x = true
    let ends := fun (normal reverse : Bool) (count : Nat) =>
      (underWay ∨ p.drive = .queued) ∧ p.underTest = false ∧ reached normal reverse count
    let completes := fun (t : State) (value : Detection) (count : Nat) =>
      (t.blk.pt i).drive = .idle ∧ (t.blk.pt i).target = none ∧
      (t.blk.pt i).output = none ∧ (t.blk.pt i).strokeTimer = none ∧
      (t.blk.pt i).latch = false ∧ (t.blk.pt i).excursion = false ∧
      (t.blk.pt i).mismatch = false ∧
      (t.blk.pt i).count = count ∧ (t.blk.pt i).refCount = count ∧
      (t.blk.pt i).computed = value ∧ (t.blk.pt i).presented = value ∧
      (t.blk.pt i).tested = true ∧
      (∀ x, p.output = some x →
        (t.blk.pt i).restTimer = some s.desc.tDead ∧ (t.blk.pt i).restDir = x) ∧
      (p.output = none → (t.blk.pt i).restTimer = p.restTimer) ∧
      (underWay → s.blk.queue = [] → t.blk.queue = [] ∧ t.blk.slots = s.blk.slots - 1) ∧
      (p.drive = .queued → i ∉ t.blk.queue ∧
        (s.desc.driveLimit ≤ s.blk.slots ∨
            (∀ j ∈ s.blk.queue, j ≠ i → (s.blk.pt j).underTest = true) →
          t.blk.queue = s.blk.queue.erase i ∧ t.blk.slots = s.blk.slots))
    let keeps := fun (t : State) (value : Detection) (count : Nat) =>
      (t.blk.pt i).count = count ∧ (t.blk.pt i).computed = value ∧
      (t.blk.pt i).presented = shows value ∧
      (t.blk.pt i).drive = p.drive ∧ (t.blk.pt i).target = p.target ∧
      (t.blk.pt i).output = p.output ∧ (t.blk.pt i).strokeTimer = p.strokeTimer ∧
      (t.blk.pt i).restTimer = p.restTimer ∧ (t.blk.pt i).restDir = p.restDir ∧
      (t.blk.pt i).refCount = p.refCount ∧ (t.blk.pt i).latch = p.latch ∧
      (t.blk.pt i).tested = p.tested ∧
      (s.desc.driveLimit ≤ s.blk.slots → t.blk.queue = s.blk.queue ∧ t.blk.slots = s.blk.slots)
    let unqueued :=
      if p.drive = .queued then s.blk.queue.count i ≤ 1 else i ∉ s.blk.queue
    let ungranted :=
      i ∉ s.blk.queue ∨ s.desc.driveLimit ≤ s.blk.slots ∨ p.underTest = true
    let settles := fun (t : State) (normal reverse : Bool) (count : Nat) (alarms : Nat) =>
      let value := byContacts normal reverse count
      (ends normal reverse count → unqueued → completes t value count) ∧
      (¬ends normal reverse count → p.drive ≠ .learning → ungranted →
        keeps t (judged value) count ∧
        ((t.blk.pt i).mismatch = true ↔ mismatched normal reverse count)) ∧
      (p.drive ≠ .learning → p.mismatch = false → mismatched normal reverse count →
        Told s t .alarm alarms ⟨0xC7, b1 6 ++ b1 i ++ b1 (if normal = true then 0 else 1) ++
          b1 (if reverse = true then 0 else 1) ++ b1 count⟩)
    let judges := fun (t : State) => (∀ j ∈ s.blk.queue, (s.blk.pt j).underTest = true) →
      (t.blk.pt i).presented ≠ p.presented ∨ (t.blk.pt i).drive ≠ p.drive →
      ∀ slot v x, s.blk.inst slot = some v → HoldsPoint s.desc v i x → v.state = .setting →
        Judged s t slot v
    (∃ t, exec (.phaseReport n a b) s = .next t ∧ t.desc = s.desc ∧ LinksKept s t ∧
      PointFrame s t i ∧
      (t.blk.pt i).phaseA = a ∧ (t.blk.pt i).phaseB = b ∧
      (t.blk.pt i).count = moved ∧
      (still → t.blk.insts = s.blk.insts ∧ t.blk.pt i = { p with phaseA := a, phaseB := b }) ∧
      (fault → LossStalls s t i (shows .lost) ∧ judges t ∧
        (∀ k, Subscribes s .alarm k → Posted t k ⟨0xC7, b1 5 ++ b1 i⟩) ∧
        (ends p.normalMade p.reverseMade p.count → unqueued →
          completes t (byContacts p.normalMade p.reverseMade p.count) p.count) ∧
        (¬reached p.normalMade p.reverseMade p.count ∨ p.underTest = true ∨
            (i ∉ s.blk.queue ∧ (resting ∨ p.drive = .learning)) →
          (t.blk.pt i).latch = true ∧ (t.blk.pt i).computed = .lost ∧
          (t.blk.pt i).presented = shows .lost)) ∧
      (¬still → ¬fault →
        let shown := shows (judged (byContacts p.normalMade p.reverseMade moved))
        LossStalls s t i shown ∧ settles t p.normalMade p.reverseMade moved 2 ∧
        (¬ends p.normalMade p.reverseMade moved → ungranted →
          (resting ∨ p.drive = .queued → (t.blk.pt i).excursion = decide far) ∧
          (underWay → (t.blk.pt i).excursion = p.excursion)) ∧
        (resting ∨ p.drive = .queued → p.excursion = true ∨ ¬far → judges t) ∧
        (¬(resting ∨ p.drive = .queued) → judges t) ∧
        (resting ∨ p.drive = .queued → p.excursion = false → far →
          TroubleStalls s t i shown (.unbiddenMove i) ∧
          ∀ k, Subscribes s .alarm k →
            Posted t k ⟨0xC7, b1 7 ++ b1 i ++ b1 p.refCount ++ b1 moved⟩))) ∧
    (∃ t, exec (.contactReport n a b) s = .next t ∧ t.desc = s.desc ∧ LinksKept s t ∧
      PointFrame s t i ∧ (t.blk.pt i).normalMade = a ∧ (t.blk.pt i).reverseMade = b ∧
      LossStalls s t i (shows (judged (byContacts a b p.count))) ∧ judges t ∧
      settles t a b p.count 1 ∧
      (¬ends a b p.count → p.drive ≠ .learning → ungranted →
        (t.blk.pt i).excursion = p.excursion))

/-- R51, R52, R53, R106, R107: a drive timeout: output off, rest timer in its direction, FAILED, target none,
the reference count set, the excursion mark clear; an instance in SETTING, OPEN or ENTERED that holds the
point is stalled, an OPEN one's signal at STOP. The rest timer's expiry in DEAD_TIME, the target's
conditions not holding, drives the point toward its target with the full stroke time, and, the
conditions holding, completes the drive of a point not under test (no point under test is in DEAD_TIME,
R50, R68); in IDLE, QUEUED, DRIVING and FAILED it only stops the timer; that R53 holds in QUEUED against
R51 is the model's choice (log entry 29). -/
def Obligations.DriveTimersAct : Prop :=
  ∀ (i : Nat) (s : State), s.desc.inForce = true →
    let p := s.blk.pt i
    let shown := if p.underTest = true then p.presented
      else if p.latch = true then .lost
      else if p.normalMade = true ∧ p.reverseMade = false ∧ p.count ≤ s.desc.tolC then .normal
      else if p.reverseMade = true ∧ p.normalMade = false ∧
          p.strokeRef ≤ p.count + s.desc.tolC then .reverse
      else .lost
    let reached := (p.target = some .normal ∧ p.normalMade = true ∧ p.reverseMade = false ∧
        p.count ≤ s.desc.tolC) ∨
      (p.target = some .reverse ∧ p.reverseMade = true ∧ p.normalMade = false ∧
        p.strokeRef ≤ p.count + s.desc.tolC)
    (p.drive = .driving → p.strokeTimer.isSome = true → i ∉ s.blk.queue →
      ∃ t, exec (.driveTimeout i) s = .next t ∧ OnlyBlocks s t ∧ LinksKept s t ∧
        PointFrame s t i ∧
        (t.blk.pt i).drive = .failed ∧ (t.blk.pt i).target = none ∧
        (t.blk.pt i).output = none ∧ (t.blk.pt i).strokeTimer = none ∧
        (t.blk.pt i).count = p.count ∧ (t.blk.pt i).refCount = p.count ∧
        (t.blk.pt i).excursion = false ∧ (t.blk.pt i).presented = shown ∧
        TroubleStalls s t i shown (.driveFailed i) ∧
        ∀ x, p.output = some x →
          (t.blk.pt i).restTimer = some s.desc.tDead ∧ (t.blk.pt i).restDir = x) ∧
    (p.restTimer.isSome = true → p.drive = .deadTime → ¬reached →
      ∃ t, exec (.restTimerExpiry i) s = .next t ∧ OnlyBlocks s t ∧ LinksKept s t ∧
        PointFrame s t i ∧
        (t.blk.pt i).drive = .driving ∧ (t.blk.pt i).restTimer = none ∧
        (t.blk.pt i).output = p.target ∧ (t.blk.pt i).target = p.target ∧
        (t.blk.pt i).strokeTimer = some s.desc.tStroke) ∧
    (p.restTimer.isSome = true → p.drive = .deadTime → reached → p.underTest = false →
      i ∉ s.blk.queue →
      ∃ t, exec (.restTimerExpiry i) s = .next t ∧ OnlyBlocks s t ∧ LinksKept s t ∧
        PointFrame s t i ∧
        (t.blk.pt i).drive = .idle ∧ (t.blk.pt i).target = none ∧
        (t.blk.pt i).output = none ∧ (t.blk.pt i).strokeTimer = none ∧
        (t.blk.pt i).latch = false ∧ (t.blk.pt i).excursion = false ∧
        (t.blk.pt i).count = p.count ∧ (t.blk.pt i).refCount = p.count ∧
        (t.blk.pt i).tested = true ∧
        (∀ x, p.target = some x → (t.blk.pt i).computed.isAt x = true) ∧
        (t.blk.pt i).presented = (t.blk.pt i).computed ∧
        (p.output = none → (t.blk.pt i).restTimer = none) ∧
        (∀ x, p.output = some x →
          (t.blk.pt i).restTimer = some s.desc.tDead ∧ (t.blk.pt i).restDir = x) ∧
        (s.blk.queue = [] → t.blk.queue = [] ∧ t.blk.slots = s.blk.slots - 1)) ∧
    (p.restTimer.isSome = true → p.drive ≠ .deadTime → p.drive ≠ .learning →
      ∃ t, exec (.restTimerExpiry i) s = .next t ∧ OnlyBlocks s t ∧ LinksKept s t ∧
        NoReport s t ∧ t.blk.yard = setPt i { p with restTimer := none } s.blk.yard)

/-- R49, R50, R53, R59: DRIVE POINT in RUNNING: the checks of index, record and position (in the
order of log entry 19), the refusals in their order; complete at once for a point detected there;
QUEUED behind full slots or under test; granted a free slot: DRIVING with the output on, DEAD_TIME
against a rest timer of the other direction, or complete where the target's conditions hold; QUEUED
with the other target: complete at once and out of the queue where it is detected there, else the
target replaced and the place kept; the reversal of a drive under way; no effect for the target it
has. -/
def Obligations.DrivePointTaken : Prop :=
  ∀ (l : LinkId) (p position : Byte) (s : State), CanSend s l 0x30 → s.blk.mode = .running →
    let i := p.toNat
    let q := s.blk.pt i
    let x := if position = 1 then Position.reverse else Position.normal
    let reached := match x with
      | .normal => q.normalMade = true ∧ q.reverseMade = false ∧ q.count ≤ s.desc.tolC
      | .reverse => q.reverseMade = true ∧ q.normalMade = false ∧
          q.strokeRef ≤ q.count + s.desc.tolC
    let against := q.restTimer.isSome = true ∧ q.restDir ≠ x
    ∃ t, exec (.drivePoint l p position) s = .next t ∧
      if 47 < i then OnlyAnswers s t l 0x30 [0x12]
      else if s.desc.ptInUse i = false then OnlyAnswers s t l 0x30 [0x30]
      else if 1 < position.toNat then OnlyAnswers s t l 0x30 [0x12]
      else if q.drive = .learning then OnlyAnswers s t l 0x30 [0x34]
      else if q.routeOwner ≠ none ∨ 0 < q.flankCount then OnlyAnswers s t l 0x30 [0x32]
      else if (s.blk.sec (s.desc.ptSec i)).occ ≠ .clear then OnlyAnswers s t l 0x30 [0x33]
      else
        AnswersWith s t l ⟨0x30, [0x00]⟩ ∧ PointFrame s t i ∧
        (q.drive = .idle ∨ q.drive = .failed →
          (q.presented.isAt x = true →
            t.blk.pts = tabSet s.blk.pts i { q with drive := .idle, target := none } ∧
            t.blk.queue = s.blk.queue ∧ t.blk.slots = s.blk.slots) ∧
          (q.presented.isAt x = false → s.desc.driveLimit ≤ s.blk.slots →
            (t.blk.pt i).drive = .queued ∧ (t.blk.pt i).target = some x ∧
            t.blk.queue = s.blk.queue ++ [i] ∧ t.blk.slots = s.blk.slots) ∧
          (q.presented.isAt x = false → s.blk.slots < s.desc.driveLimit → i ∉ s.blk.queue →
            (∀ j ∈ s.blk.queue, (s.blk.pt j).underTest = true) →
            (q.underTest = true →
              (t.blk.pt i).drive = .queued ∧ (t.blk.pt i).target = some x ∧
              t.blk.queue = s.blk.queue ++ [i] ∧ t.blk.slots = s.blk.slots) ∧
            (q.underTest = false → t.blk.queue = s.blk.queue ∧
              (reached → (t.blk.pt i).drive = .idle ∧ (t.blk.pt i).target = none ∧
                (t.blk.pt i).latch = false ∧ (t.blk.pt i).presented.isAt x = true ∧
                t.blk.slots = s.blk.slots) ∧
              (¬reached → against →
                (t.blk.pt i).drive = .deadTime ∧ (t.blk.pt i).target = some x ∧
                (t.blk.pt i).output = q.output ∧ (t.blk.pt i).restTimer = q.restTimer ∧
                t.blk.slots = s.blk.slots + 1) ∧
              (¬reached → ¬against →
                (t.blk.pt i).drive = .driving ∧ (t.blk.pt i).target = some x ∧
                (t.blk.pt i).output = some x ∧
                (t.blk.pt i).strokeTimer = some s.desc.tStroke ∧
                t.blk.slots = s.blk.slots + 1)))) ∧
        (q.drive = .deadTime ∨ q.drive = .driving ∨ q.drive = .queued → q.target = some x →
          t.blk.yard = s.blk.yard ∧ NoReport s t) ∧
        (q.drive = .queued → q.target ≠ some x → t.blk.slots = s.blk.slots ∧
          (q.presented.isAt x = true → t.blk.queue = s.blk.queue.erase i ∧
            t.blk.pts = tabSet s.blk.pts i { q with drive := .idle, target := none }) ∧
          (q.presented.isAt x = false → NoReport s t ∧
            t.blk.yard = setPt i { q with target := some x } s.blk.yard)) ∧
        (q.drive = .driving → q.target ≠ some x → ∀ dir, q.output = some dir →
          (t.blk.pt i).drive = .deadTime ∧ (t.blk.pt i).target = some x ∧
            (t.blk.pt i).output = none ∧ (t.blk.pt i).strokeTimer = none ∧
            (t.blk.pt i).restTimer = some s.desc.tDead ∧ (t.blk.pt i).restDir = dir ∧
            t.blk.slots = s.blk.slots) ∧
        (q.drive = .deadTime → q.target ≠ some x →
          (t.blk.pt i).drive = .deadTime ∧ (t.blk.pt i).target = some x ∧
            (t.blk.pt i).output = q.output ∧ (t.blk.pt i).restTimer = some s.desc.tDead ∧
            (t.blk.pt i).restDir = q.restDir ∧ t.blk.slots = s.blk.slots)

/-- R60: BLOCK POINT and UNBLOCK POINT in RUNNING: BAD_VALUE for a point above 47, NOT_FOUND for one not in
use; the mark set and cleared. R64, R175: setting the mark
posts one POINT report BLOCKED, which a link that holds 16 reports drops with REPORTS_LOST set. -/
def Obligations.BlockMarkSetAndCleared : Prop :=
  (∀ (c : Instr) (kind p : Byte) (l : LinkId) (s : State),
    (c = .blockPoint l p ∧ kind = 0x31) ∨ (c = .unblockPoint l p ∧ kind = 0x32) →
    CanSend s l kind → s.blk.mode = .running →
    ∃ t, exec c s = .next t ∧
      (47 < p.toNat → OnlyAnswers s t l kind [0x12]) ∧
      (p.toNat ≤ 47 → s.desc.ptInUse p.toNat = false → OnlyAnswers s t l kind [0x30])) ∧
  ∀ (l : LinkId) (p : Byte) (s : State), s.blk.mode = .running → p.toNat ≤ 47 →
    s.desc.ptInUse p.toNat = true →
    let i := p.toNat
    let q := s.blk.pt i
    (CanSend s l 0x31 → ∃ t, exec (.blockPoint l p) s = .next t ∧
      AnswersWith s t l ⟨0x31, [0x00]⟩ ∧
      t.blk.yard = setPt i { q with blocked := true } s.blk.yard ∧
      (q.blocked = true → NoReport s t) ∧
      (q.blocked = false → OnlyReport s t (fun k => hasBit (s.blk.link k).subscription 1 = true)
        ⟨0xC2, b1 6 ++ b1 i ++ b1 q.presented.code ++ b1 q.drive.code ++
          o1 (q.target.map Position.code) ++ b1 q.count ++ b1 q.strokeRef ++ o1 q.routeOwner ++
          b1 q.flankCount ++ o1 (q.flankPos.map Position.code) ++ b1 1⟩)) ∧
    (CanSend s l 0x32 → ∃ t, exec (.unblockPoint l p) s = .next t ∧
      if q.drive = .learning then OnlyAnswers s t l 0x32 [0x34]
      else if q.blocked = false then OnlyAnswers s t l 0x32 [0x00]
      else
        AnswersWith s t l ⟨0x32, [0x00]⟩ ∧
        t.blk.pts = tabSet s.blk.pts i { q with blocked := false } ∧
        t.blk.wait = (s.blk.wait.map fun e => { e with tried := false }) ∧
        t.blk.yard = { s.blk.yard with
          pts := t.blk.pts, wait := t.blk.wait, prog := t.blk.prog })

/-- R61: LEARN POINT in RUNNING: BAD_VALUE for a point above 47, NOT_FOUND for one not in use, then its
refusals in their order; accepted behind
full slots, the point is LEARNING in phase WAITING at the end of the drive queue. R62: accepted
with a free slot, the learning starts: OUTWARD with the output toward REVERSE, or waiting for a rest
timer that runs toward NORMAL; away from the normal end it fails at once (R63). -/
def Obligations.LearnPointTaken : Prop :=
  ∀ (l : LinkId) (p : Byte) (s : State), CanSend s l 0x33 → s.blk.mode = .running →
    let i := p.toNat
    let q := s.blk.pt i
    let home := q.normalMade = true ∧ q.reverseMade = false ∧ q.count ≤ s.desc.tolC
    ∃ t, exec (.learnPoint l p) s = .next t ∧
      if 47 < i then OnlyAnswers s t l 0x33 [0x12]
      else if s.desc.ptInUse i = false then OnlyAnswers s t l 0x33 [0x30]
      else if q.drive = .learning then OnlyAnswers s t l 0x33 [0x34]
      else if q.blocked = false then OnlyAnswers s t l 0x33 [0x35]
      else if q.routeOwner ≠ none ∨ 0 < q.flankCount then OnlyAnswers s t l 0x33 [0x32]
      else if (s.blk.sec (s.desc.ptSec i)).occ ≠ .clear then OnlyAnswers s t l 0x33 [0x33]
      else if (q.drive ≠ .idle ∧ q.drive ≠ .failed) ∨ q.underTest = true ∨
          q.presented ≠ .normal then
        OnlyAnswers s t l 0x33 [0x36]
      else
        AnswersWith s t l ⟨0x33, [0x00]⟩ ∧ PointFrame s t i ∧
        (s.desc.driveLimit ≤ s.blk.slots →
          (t.blk.pt i).drive = .learning ∧ (t.blk.pt i).phase = some .waiting ∧
          (t.blk.pt i).computed = .learning ∧ (t.blk.pt i).presented = .learning ∧
          t.blk.queue = s.blk.queue ++ [i] ∧ t.blk.slots = s.blk.slots) ∧
        (s.blk.slots < s.desc.driveLimit → i ∉ s.blk.queue →
          (∀ j ∈ s.blk.queue, (s.blk.pt j).underTest = true) →
          t.blk.queue = s.blk.queue ∧
          (home →
            (t.blk.pt i).drive = .learning ∧ (t.blk.pt i).phase = some .outward ∧
            (t.blk.pt i).computed = .learning ∧ (t.blk.pt i).presented = .learning ∧
            (t.blk.pt i).learnCount = q.count ∧
            (t.blk.pt i).learnTimer = some (2 * s.desc.tStroke) ∧
            (t.blk.pt i).output =
              (if q.restTimer.isSome = true ∧ q.restDir = .normal then q.output
               else some .reverse) ∧
            t.blk.slots = s.blk.slots + 1) ∧
          (¬home →
            (t.blk.pt i).drive = .failed ∧ (t.blk.pt i).phase = none ∧
            (t.blk.pt i).strokeRef = q.strokeRef ∧ (t.blk.pt i).output = none ∧
            (t.blk.pt i).learnTimer = none ∧ t.blk.slots = s.blk.slots))

/-- R62: in OUTWARD the reverse contact's make records the measured stroke and starts SETTLE; the
settle timer's expiry with the rest timer stopped, and the rest timer's with the settle timer stopped,
starts RETURN toward NORMAL; in OUTWARD the rest timer's expiry switches the output toward REVERSE, else
it only stops. A phase step moves the learning count of a granted learning by one within 0 and 230.
R63: in RETURN the
normal contact's make judges the learning: a measured stroke in 60..200 with the learning count
within tol_c becomes S, the point IDLE and unlatched; else the learning fails, as it does at the
learning timer's expiry after the grant, and, in any phase, at a phase fault, which latches the point.
That a contact makes at its change from open is the model's reading (log entry 15). -/
def Obligations.LearningTimersAct : Prop :=
  ∀ (n i : Nat) (a b : Bool) (s : State), s.desc.inForce = true →
    s.desc.ptOfChannel n = some i → (s.blk.pt i).drive = .learning →
    let q := s.blk.pt i
    let failed := fun (t : State) => (t.blk.pt i).drive = .failed ∧
      (t.blk.pt i).output = none ∧ (t.blk.pt i).learnTimer = none ∧
      (t.blk.pt i).settleTimer = none ∧ (t.blk.pt i).phase = none ∧
      (t.blk.pt i).strokeRef = q.strokeRef ∧ (t.blk.pt i).tested = true
    (q.phase = some .outward → q.reverseMade = false →
      ∃ t, exec (.contactReport n b true) s = .next t ∧ t.desc = s.desc ∧ LinksKept s t ∧
        PointFrame s t i ∧ (t.blk.pt i).drive = .learning ∧ (t.blk.pt i).phase = some .settle ∧
        (t.blk.pt i).measured = some q.learnCount ∧ (t.blk.pt i).output = none ∧
        (t.blk.pt i).restTimer = some s.desc.tDead ∧ (t.blk.pt i).restDir = .reverse ∧
        (t.blk.pt i).settleTimer = some 3 ∧ (t.blk.pt i).learnTimer = q.learnTimer) ∧
    (q.phase = some .settle → q.settleTimer.isSome = true → q.restTimer = none →
      ∃ t, exec (.settleTimerExpiry i) s = .next t ∧ OnlyBlocks s t ∧ LinksKept s t ∧
        PointFrame s t i ∧
        (t.blk.pt i).phase = some .back ∧ (t.blk.pt i).output = some .normal ∧
        (t.blk.pt i).settleTimer = none ∧ (t.blk.pt i).drive = .learning) ∧
    (q.phase = some .back → q.normalMade = false → i ∉ s.blk.queue →
      ∃ t, exec (.contactReport n true b) s = .next t ∧ t.desc = s.desc ∧ LinksKept s t ∧
        PointFrame s t i ∧ (t.blk.pt i).restTimer = some s.desc.tDead ∧
        (t.blk.pt i).restDir = .normal ∧
        (∀ m, q.measured = some m → 60 ≤ m → m ≤ 200 → q.learnCount ≤ s.desc.tolC →
          (t.blk.pt i).drive = .idle ∧ (t.blk.pt i).strokeRef = m ∧
          (t.blk.pt i).learned = true ∧ (t.blk.pt i).count = q.learnCount ∧
          (t.blk.pt i).refCount = q.learnCount ∧ (t.blk.pt i).latch = false ∧
          (t.blk.pt i).output = none ∧ (t.blk.pt i).phase = none ∧
          (t.blk.pt i).learnTimer = none ∧ (t.blk.pt i).settleTimer = none ∧
          (t.blk.pt i).excursion = false ∧ (t.blk.pt i).tested = true ∧
          (t.blk.pt i).computed = (if b = true then .lost else .normal) ∧
          (q.underTest = false → (t.blk.pt i).presented = (t.blk.pt i).computed)) ∧
        ((∀ m, q.measured = some m → m < 60 ∨ 200 < m ∨ s.desc.tolC < q.learnCount) →
          failed t)) ∧
    (q.restTimer.isSome = true →
      let out := if q.phase = some .outward then some Position.reverse
        else if q.phase = some .settle ∧ q.settleTimer = none then some .normal else q.output
      ∃ t, exec (.restTimerExpiry i) s = .next t ∧ OnlyBlocks s t ∧ LinksKept s t ∧
        NoReport s t ∧
        t.blk.pts = tabSet s.blk.pts i { q with
          restTimer := none, output := out
          phase := if q.phase = some .settle ∧ q.settleTimer = none then some .back
            else q.phase } ∧
        t.blk.yard = { s.blk.yard with pts := t.blk.pts, out := t.blk.out } ∧
        t.blk.out = s.blk.out ++
          if out = q.output then [] else [.drive (s.desc.ptChannel i) out]) ∧
    (∃ t, exec (.phaseReport n a b) s = .next t ∧ t.desc = s.desc ∧ LinksKept s t ∧
      PointFrame s t i ∧
      (a ≠ q.phaseA → b ≠ q.phaseB →
        (q.phase ≠ some .waiting → i ∉ s.blk.queue → failed t ∧ (t.blk.pt i).latch = true ∧
          (q.phase ≠ none → s.blk.queue = [] → t.blk.slots = s.blk.slots - 1)) ∧
        (q.phase = some .waiting → s.blk.queue.count i = 1 →
          (t.blk.pt i).drive = .failed ∧ (t.blk.pt i).phase = none ∧
          (t.blk.pt i).latch = true ∧ (t.blk.pt i).strokeRef = q.strokeRef ∧
          (t.blk.pt i).tested = q.tested ∧ i ∉ t.blk.queue)) ∧
      (¬(a = q.phaseA ∧ b = q.phaseB) → ¬(a ≠ q.phaseA ∧ b ≠ q.phaseB) →
        (q.phase ≠ some .waiting → i ∉ s.blk.queue →
          (t.blk.pt i).drive = .learning ∧ (t.blk.pt i).phase = q.phase ∧
          (t.blk.pt i).measured = q.measured ∧ (t.blk.pt i).output = q.output ∧
          (t.blk.pt i).learnTimer = q.learnTimer ∧ (t.blk.pt i).settleTimer = q.settleTimer ∧
          (t.blk.pt i).learnCount =
            if (q.phaseA, q.phaseB, a, b) ∈
                [(false, false, true, false), (true, false, true, true),
                 (true, true, false, true), (false, true, false, false)] then
              min (q.learnCount + 1) 230
            else q.learnCount - 1) ∧
        (q.phase = some .waiting → s.desc.driveLimit ≤ s.blk.slots →
          (t.blk.pt i).phase = some .waiting ∧ (t.blk.pt i).learnCount = q.learnCount))) ∧
    (q.learnTimer.isSome = true → q.phase ≠ some .waiting → i ∉ s.blk.queue →
      ∃ t, exec (.learningTimerExpiry i) s = .next t ∧ OnlyBlocks s t ∧ LinksKept s t ∧
        PointFrame s t i ∧ failed t)

/-! ### Detection testing and modes -/

/-- R69, R79: an outcome report sent for the step in progress is recorded for a point under test,
the last one counting; for any other point it is discarded, and so is a report sent for a step that
has ended or been abandoned, whatever step is in progress. That the command says for which step it
was sent is the model's form of the event (log entry 27). -/
def Obligations.OutcomeReportRecorded : Prop :=
  ∀ (n i : Nat) (o : TestOutcome) (step : SentFor) (s : State), s.desc.inForce = true →
    s.desc.ptOfChannel n = some i →
    ∃ t, exec (.testOutcomeReport n ⟨o, step⟩) s = .next t ∧ OnlyBlocks s t ∧ LinksKept s t ∧
      NoReport s t ∧
      t.blk.yard = (if (s.blk.pt i).underTest = true ∧ step = .current then
        setPt i { s.blk.pt i with outcome := some o } s.blk.yard else s.blk.yard)

/-- R67, R68: the interval timer's expiry in RUNNING and in QUIET starts a step, puts the points
it chooses under test and restarts the interval; a step already running is the model's own case
(log entry 16). -/
def Obligations.IntervalExpiryStartsStep : Prop :=
  ∀ s : State, s.desc.inForce = true → s.blk.tst.interval.isSome = true →
    s.blk.tst.kind = .none → s.blk.mode = .running ∨ s.blk.mode = .quiet →
    ∃ t, exec .intervalTimerExpiry s = .next t ∧ OnlyBlocks s t ∧ LinksKept s t ∧ NoReport s t ∧
      t.blk.tst = { s.blk.tst with
        kind := if s.blk.mode = .running then .cycle else .quiet
        step := some 2
        interval := some (if s.blk.mode = .running then s.desc.tCycle / s.blk.tst.g
          else s.desc.tQuiet) } ∧
      t.blk.yard = { s.blk.yard with tst := t.blk.tst, pts := t.blk.pts, out := t.blk.out } ∧
      ∀ i, s.desc.ptInUse i = true →
        t.blk.pt i =
          if ((s.blk.pt i).drive = .idle ∨ (s.blk.pt i).drive = .failed ∨
                (s.blk.pt i).drive = .queued) ∧
              (s.blk.mode = .running →
                i % s.blk.tst.g = s.blk.tst.pointer ∧ (s.blk.pt i).tested = false) then
            { s.blk.pt i with underTest := true, outcome := none }
          else s.blk.pt i

/-- R70, R71, R74, R75, R78, R106, R107: the end of a test step. An in-use point under test without a PASS,
no queued drive on it, is latched and LOST, and raises TEST_FAIL; an OPEN or ENTERED instance that holds
one is stalled, an OPEN one's signal at STOP; every mark under test is cleared. A CYCLE step in RUNNING
marks its points tested and advances the group pointer, the cycle's last step clearing every tested mark
and taking a pending granularity; a step that ends in QUIET clears every tested mark; in WAKING the
proving step follows in PROVING. The end of the proving step enters RUNNING: tested marks clear, group 0,
a pending granularity in effect, the interval started, every tried mark cleared, and the programme judged (R149, R150): each auto-departure
that is due becomes CALLED, with its report, and one entry may be offered. In QUIET and WAKING no entry
changes. That TEST_FAIL may stand behind a COUNT_MISMATCH
of the same point is the model's reading (log entry 26). That auto-departures are judged before the offer
at the mode becoming RUNNING, which decides the entry that is offered, is the model's choice (log entry 28),
and so is that several of them are called and reported in list order (log entry 36).
The bytes of absent fields of a report are the model's reading (log entry 17). -/
def Obligations.ProvingStepEndsInRunning : Prop :=
  ∀ s : State, s.desc.inForce = true → s.blk.tst.step.isSome = true →
    let held := fun i => s.desc.ptInUse i = true ∧ (s.blk.pt i).underTest = true
    let fails := (s.desc.pts.filter fun i =>
      (s.blk.pt i).underTest && (s.blk.pt i).outcome != some .pass).length
    let k := s.blk.tst.kind
    let ended := { s.blk.tst with kind := .none, step := none }
    let newG := s.blk.tst.pendingG.getD s.blk.tst.g
    let cleared := fun (t : State) => ∀ i, (t.blk.pt i).tested = false
    let released := fun (t : State) => ∀ i, s.desc.ptInUse i = true →
      (t.blk.pt i).underTest = false ∧ ((s.blk.pt i).underTest = true → (t.blk.pt i).outcome = none)
    ∃ t, exec .stepTimerExpiry s = .next t ∧ OnlyBlocks s t ∧ LinksKept s t ∧
      t.blk.secs = s.blk.secs ∧ t.blk.roads = s.blk.roads ∧ t.blk.rot = s.blk.rot ∧
      t.blk.fleet = s.blk.fleet ∧
      (∀ i, held i → (s.blk.pt i).drive = .idle ∨ (s.blk.pt i).drive = .failed →
        i ∉ s.blk.queue →
        if (s.blk.pt i).outcome = some .pass then (t.blk.pt i).latch = (s.blk.pt i).latch
        else (t.blk.pt i).latch = true ∧ (t.blk.pt i).computed = .lost ∧
          (t.blk.pt i).presented = .lost ∧
          ∀ l, hasBit (s.blk.link l).subscription 6 = true → Hears s l →
            (s.blk.rep l).queue.length + 2 * fails ≤ 16 →
            Posted t l ⟨0xC7, b1 8 ++ b1 i ++
              b1 (if (s.blk.pt i).outcome = some .fail then 0 else 1) ++
              b1 (s.blk.pt i).presented.code⟩) ∧
      (∀ i slot v x, held i → (s.blk.pt i).outcome ≠ some .pass → s.blk.inst slot = some v →
        HoldsPoint s.desc v i x → v.state = .opened ∨ v.state = .entered →
        ∃ why, (∃ j, why = .pointLost j ∨ why = .testFail j) ∧ StalledBy s t slot v why) ∧
      (∀ i, held i → (∀ j, held j → j = i) → (s.blk.pt i).outcome ≠ some .pass →
        (s.blk.pt i).drive = .idle ∨ (s.blk.pt i).drive = .failed → i ∉ s.blk.queue →
        TroubleStalls s t i .lost (.testFail i)) ∧
      (k = .cycle → s.blk.mode = .running → released t ∧ t.blk.ctl = s.blk.ctl ∧
        MayOffer s.blk.prog.entries t.blk.prog.entries ∧
        if s.blk.tst.pointer + 1 < s.blk.tst.g then
          t.blk.tst = { ended with pointer := s.blk.tst.pointer + 1 } ∧
          (∀ i, held i → (t.blk.pt i).tested = true) ∧
          (∀ i, (s.blk.pt i).tested = true → (t.blk.pt i).tested = true)
        else
          cleared t ∧ t.blk.tst = { ended with
            pointer := 0, g := newG, pendingG := none
            interval := if newG = s.blk.tst.g then s.blk.tst.interval
              else some (s.desc.tCycle / newG) }) ∧
      (k = .cycle ∨ k = .quiet → s.blk.mode = .quiet →
        released t ∧ cleared t ∧ t.blk.ctl = s.blk.ctl ∧
        untried t.blk.prog.entries = untried s.blk.prog.entries ∧
        t.blk.tst = { ended with pointer := if k = .cycle then 0 else s.blk.tst.pointer }) ∧
      (k = .cycle ∨ k = .quiet → s.blk.mode = .waking →
        cleared t ∧ t.blk.ctl = { s.blk.ctl with mode := .proving } ∧
        untried t.blk.prog.entries = untried s.blk.prog.entries ∧
        Told s t .mode 1 ⟨0xC8, [0, 5, 2]⟩ ∧
        t.blk.tst = { ended with
          kind := .proving, step := some 2
          pointer := if k = .cycle then 0 else s.blk.tst.pointer } ∧
        ∀ i, s.desc.ptInUse i = true → (t.blk.pt i).outcome = none ∨ (s.blk.pt i).underTest = false) ∧
      (k = .proving → s.blk.mode = .proving → released t ∧ cleared t ∧
        t.blk.ctl = { s.blk.ctl with mode := .running } ∧
        Told s t .mode 1 ⟨0xC8, [0, 2, 3]⟩ ∧
        t.blk.prog = { s.blk.prog with entries := t.blk.prog.entries } ∧
        Offered s.desc s.blk.prog
          ((untried s.blk.prog.entries).map (autoCalled s.blk.prog.clock)) t.blk.prog.entries ∧
        CallsTold s t s.blk.prog.clock ∧
        (∀ e ∈ t.blk.wait, e.tried = false) ∧
        t.blk.tst = { ended with
          g := newG, pendingG := none, pointer := 0, interval := some (s.desc.tCycle / newG) })

/-- R72: SET GRANULARITY. -/
def Obligations.SetGranularityPending : Prop :=
  ∀ (l : LinkId) (g : Byte) (s : State), CanSend s l 0x78 →
    ∃ t, exec (.setGranularity l g) s = .next t ∧
      if s.blk.mode = .unloaded ∨ s.blk.mode = .loading then
        OnlyAnswers s t l 0x78 (0x14 :: b1 s.blk.mode.code)
      else if g.toNat = 1 ∨ g.toNat = 2 ∨ g.toNat = 4 then
        AnswersWith s t l ⟨0x78, [0x00]⟩ ∧ NoReport s t ∧
        t.blk.yard = { s.blk.yard with tst := { s.blk.tst with pendingG := some g.toNat } }
      else OnlyAnswers s t l 0x78 [0x12]

/-- R75, R77, R78, R79: ENTER QUIET in RUNNING; WAKE in QUIET, the interval timer stopping: with no
step in progress the mode is PROVING with its MODE report and the proving step runs, every point IDLE,
FAILED or QUEUED under test; with one, and wake abort OFF, the step runs on in WAKING; with wake abort ON
it is abandoned: its points show what is computed, and go under test anew. No instance, area, waiting
entry, programme entry or signal changes. With wake abort ON that is said of a yard without instances
and drives, as ENTER QUIET leaves it (R75, R73). -/
def Obligations.QuietEnteredAndLeft : Prop :=
  ∀ (l : LinkId) (s : State),
    (CanSend s l 0x79 → s.blk.mode = .running → ∃ t, exec (.enterQuiet l) s = .next t ∧
      (YardIdle s.desc s.blk →
        AnswersWith s t l ⟨0x79, [0x00]⟩ ∧
        t.blk.tst = { s.blk.tst with pointer := 0, interval := some s.desc.tQuiet } ∧
        t.blk.yard = { s.blk.yard with
          ctl := { s.blk.ctl with mode := .quiet }, tst := t.blk.tst, pts := t.blk.pts } ∧
        (s.blk.tst.kind = .none → ∀ i, (t.blk.pt i).tested = false) ∧
        OnlyReport s t (fun k => hasBit (s.blk.link k).subscription 7 = true)
          ⟨0xC8, [0, 3, 4]⟩) ∧
      (¬YardIdle s.desc s.blk → OnlyAnswers s t l 0x79 [0x36])) ∧
    (CanSend s l 0x7A → ∃ t, exec (.wake l) s = .next t ∧
      if s.blk.mode ≠ .quiet then OnlyAnswers s t l 0x7A (0x14 :: b1 s.blk.mode.code)
      else
        let tells := fun (new : Nat) => OnlyReport s t
          (fun k => hasBit (s.blk.link k).subscription 7 = true) ⟨0xC8, [0, 4, BitVec.ofNat 8 new]⟩
        let fit := fun (i : Nat) => (s.blk.pt i).drive = .idle ∨ (s.blk.pt i).drive = .failed ∨
          (s.blk.pt i).drive = .queued
        let proves := t.blk.mode = .proving ∧
          t.blk.tst = { s.blk.tst with kind := .proving, step := some 2, interval := none }
        let kept := fun (u : State) => t.blk.yard = { s.blk.yard with
          ctl := { s.blk.ctl with mode := t.blk.mode }, tst := t.blk.tst, pts := u.blk.pts
          out := u.blk.out }
        AnswersWith s t l ⟨0x7A, [0x00]⟩ ∧ t.blk.tst.interval = none ∧
        t.blk.ctl = { s.blk.ctl with mode := t.blk.mode } ∧ t.blk.secs = s.blk.secs ∧
        t.blk.roads = s.blk.roads ∧ t.blk.rot = s.blk.rot ∧ t.blk.fleet = s.blk.fleet ∧
        (s.blk.tst.kind = .none → proves ∧ tells 2 ∧ kept t ∧
          ∀ i, s.desc.ptInUse i = true →
            t.blk.pt i = (if fit i then { s.blk.pt i with underTest := true, outcome := none }
              else s.blk.pt i) ∧
            (fit i → .testStart (s.desc.ptChannel i) ∈ t.blk.out)) ∧
        (s.blk.tst.kind ≠ .none → s.desc.wakeAbort = false →
          t.blk.mode = .waking ∧ t.blk.tst = { s.blk.tst with interval := none } ∧ tells 5 ∧
          kept s) ∧
        (s.blk.tst.kind ≠ .none → s.desc.wakeAbort = true → proves ∧
          (∀ i, s.desc.ptInUse i = true → (s.blk.pt i).underTest = true →
            .testEnd (s.desc.ptChannel i) ∈ t.blk.out) ∧
          ((∀ slot, s.blk.inst slot = none) → s.blk.queue = [] →
            (∀ i, s.desc.ptInUse i = true →
              (s.blk.pt i).drive = .idle ∨ (s.blk.pt i).drive = .failed) →
            kept t ∧
            (∀ i, s.desc.ptInUse i = true →
              t.blk.pt i = { s.blk.pt i with
                underTest := true, outcome := none
                presented := if (s.blk.pt i).underTest = true then (s.blk.pt i).computed
                  else (s.blk.pt i).presented } ∧
              .testStart (s.desc.ptChannel i) ∈ t.blk.out) ∧
            ((∀ i, s.desc.ptInUse i = true → (s.blk.pt i).underTest = true →
                (s.blk.pt i).presented = (s.blk.pt i).computed) → tells 2) ∧
            ∀ k, SubscribesOnly s .mode k → Posted t k ⟨0xC8, [0, 4, 2]⟩)))

/-! ### Areas -/

/-- R161, R162, R163, R166, R167: POSSESS AREA and END POSSESSION in RUNNING, each change of state with its
one AREA report. R163: while an area is PENDING, a release of a section of it, the withdrawal or the end
of a drive of a point of it, by a clear timer, a whole release, a drive timeout or DRIVE POINT, grants
it as soon as the grant condition holds, with the report GRANTED. -/
def Obligations.PossessionTakenAndEnded : Prop :=
  (∀ (l : LinkId) (a key : Byte) (s : State), s.blk.mode = .running →
    let old := s.blk.area a.toNat
    let kept := fun (t : State) => (∀ x, x ≠ a.toNat → t.blk.area x = s.blk.area x) ∧
      t.blk.yard = { s.blk.yard with
        areas := t.blk.areas, wait := t.blk.wait, prog := t.blk.prog }
    let untried := s.blk.wait.map fun e => { e with tried := false }
    let told := fun (t : State) (body : List Byte) =>
      OnlyReport s t (fun k => hasBit (s.blk.link k).subscription 5 = true) ⟨0xC6, body⟩
    let held := ∃ slot v, s.blk.inst slot = some v ∧ v.key = some old.key ∧
        ∃ x ∈ v.unreleased, s.desc.secArea x = a.toNat
    (CanSend s l 0x40 → ∃ t, exec (.possessArea l a key) s = .next t ∧
      (7 < a.toNat ∨ key.toNat = 0 ∨ 15 < key.toNat → OnlyAnswers s t l 0x40 [0x12]) ∧
      (a.toNat ≤ 7 → 1 ≤ key.toNat → key.toNat ≤ 15 →
        (old.status ≠ .free → OnlyAnswers s t l 0x40 [0x35]) ∧
        (old.status = .free → GrantCondition s.desc s.blk a.toNat →
          AnswersWith s t l ⟨0x40, [0x00, 2]⟩ ∧ kept t ∧ t.blk.wait = untried ∧
          t.blk.area a.toNat = { status := .possessed, key := key.toNat } ∧
          told t (b1 1 ++ b1 a.toNat ++ b1 0 ++ b1 2 ++ b1 key.toNat)) ∧
        (old.status = .free → ¬GrantCondition s.desc s.blk a.toNat →
          AnswersWith s t l ⟨0x40, [0x00, 1]⟩ ∧ kept t ∧ t.blk.wait = s.blk.wait ∧
          t.blk.area a.toNat = { status := .pending, key := key.toNat } ∧
          told t (b1 0 ++ b1 a.toNat ++ b1 0 ++ b1 1 ++ b1 key.toNat)))) ∧
    (CanSend s l 0x41 → ∃ t, exec (.endPossession l a) s = .next t ∧
      (7 < a.toNat → OnlyAnswers s t l 0x41 [0x12]) ∧
      (a.toNat ≤ 7 →
        (old.status = .free → OnlyAnswers s t l 0x41 [0x00]) ∧
        (old.status = .possessed → held → OnlyAnswers s t l 0x41 [0x35]) ∧
        (old.status = .pending ∨ (old.status = .possessed ∧ ¬held) →
          AnswersWith s t l ⟨0x41, [0x00]⟩ ∧ kept t ∧ t.blk.wait = untried ∧
          t.blk.area a.toNat = { status := .free, key := 0 } ∧
          told t (b1 2 ++ b1 a.toNat ++ b1 old.status.code ++ b1 0 ++ b1 old.key))))) ∧
  (∀ (c : Instr) (i a : Nat) (l : LinkId) (p position : Byte) (s : State),
    s.desc.inForce = true → (s.blk.area a).status = .pending →
    (c = .clearTimerExpiry i ∨ c = .approachTimerExpiry i ∨ c = .handReleaseTimerExpiry i ∨
      c = .driveTimeout i ∨ c = .drivePoint l p position) →
    let granted : AreaState := { s.blk.area a with status := .possessed }
    ∃ t, exec c s = .next t ∧
      (t.blk.area a = s.blk.area a ∨ t.blk.area a = granted) ∧
      (AreaFreed s t a → GrantCondition t.desc t.blk a → t.blk.area a = granted) ∧
      (s.blk.queue = [] → ¬GrantCondition t.desc t.blk a → t.blk.area a = s.blk.area a) ∧
      (t.blk.area a = granted → ∀ k, SubscribesOnly s .area k →
        Posted t k ⟨0xC6, b1 1 ++ b1 a ++ b1 1 ++ b1 2 ++ b1 (s.blk.area a).key⟩))

/-! ### Roads -/

/-- R131: the comparison of one cell. -/
def Obligations.CellComparisonTable : Prop :=
  ∀ (o : Occupancy) (e : Expectation), disagrees o e = true ↔
    (o = .clear ∧ e = .occ) ∨ (o = .occupied ∧ e = .clear) ∨ o = .disturbed

/-- R139, R129, R179: DECLARE ROAD: BAD_LENGTH with more than 8 trams, a LEN that Table 27 does not give
(R172). With 0 to 8 trams, in RUNNING: BAD_VALUE for a road above 23, NOT_FOUND for one not in use (in the
order of log entry 19), BAD_VALUE for a count that is not that of the trams or is above 8 and for a tram
above 9999, then the other checks in their order, each refusal changing nothing; a declaration that
passes them replaces the stack, sets the declared mark and leaves the road IDLE and judged (R133), or
BLOCKED, with an alarm for each tram that is not listed (R126) and the ROAD report DECLARED (R145).
The bytes of absent fields of a report are the model's reading (log entry 17). -/
def Obligations.DeclareRoadReplacesStack : Prop :=
  (∀ (l : LinkId) (r count : Byte) (trams : List Half) (s : State), CanSend s l 0x50 →
    8 < trams.length → trams.length ≤ 59 →
    ∃ t, exec (.declareRoad l r count trams) s = .next t ∧ OnlyAnswers s t l 0x50 [0x11]) ∧
  (∀ (l : LinkId) (r count : Byte) (trams : List Half) (s : State), CanSend s l 0x50 →
    s.blk.mode = .running → trams.length ≤ 8 →
    ∃ t, exec (.declareRoad l r count trams) s = .next t ∧
      (23 < r.toNat → OnlyAnswers s t l 0x50 [0x12]) ∧
      (r.toNat ≤ 23 → s.desc.roadInUse r.toNat = false → OnlyAnswers s t l 0x50 [0x30]) ∧
      (r.toNat ≤ 23 → s.desc.roadInUse r.toNat = true →
        count.toNat ≠ trams.length ∨ 8 < count.toNat ∨ (∃ n ∈ trams, 9999 < n.toNat) →
        OnlyAnswers s t l 0x50 [0x12])) ∧
  ∀ (l : LinkId) (r count : Byte) (trams : List Half) (s : State), CanSend s l 0x50 →
    s.blk.mode = .running → r.toNat ≤ 23 → s.desc.roadInUse r.toNat = true →
    trams.length ≤ 8 → count.toNat = trams.length →
    let ns := trams.map (·.toNat)
    let old := s.blk.road r.toNat
    let twice := ¬(ns.filter fun n => decide (n ≠ 0)).Nodup ∨
      ∃ n ∈ ns, n ≠ 0 ∧ ∃ j, j < 24 ∧ j ≠ r.toNat ∧ s.desc.roadInUse j = true ∧
        ∃ x ∈ (s.blk.road j).stack, x.tram = n
    let lens := ns.map fun n => tramLength s.desc s.blk n
    let tooLong := ∃ k, k < lens.length ∧ s.desc.roadL r.toNat <
      s.desc.roadB r.toNat + ((lens.take k).map fun x => x + s.desc.roadG r.toNat).sum +
        lens.getD k 0
    (∀ n ∈ ns, n ≤ 9999) →
    ∃ t, exec (.declareRoad l r count trams) s = .next t ∧
      (old.status = .arriving ∨ old.status = .departing → OnlyAnswers s t l 0x50 [0x35]) ∧
      (old.status ≠ .arriving → old.status ≠ .departing →
        ((s.blk.sec (s.desc.roadMouth r.toNat)).occ ≠ .clear → OnlyAnswers s t l 0x50 [0x33]) ∧
        ((s.blk.sec (s.desc.roadMouth r.toNat)).occ = .clear →
          (twice → OnlyAnswers s t l 0x50 [0x27]) ∧
          (¬twice → tooLong → OnlyAnswers s t l 0x50 [0x25]) ∧
          (¬twice → ¬tooLong →
            AnswersWith s t l ⟨0x50, [0x00]⟩ ∧
            (t.blk.road r.toNat).stack =
              (ns.map fun n =>
                { tram := n, length := tramLength s.desc s.blk n, state := .stabled }) ∧
            (t.blk.road r.toNat).declared = true ∧
            (t.blk.road r.toNat).status =
              (if old.status = .blocked then .blocked else .idle) ∧
            (if old.status = .blocked then
              t.blk.road r.toNat = { old with
                stack := (t.blk.road r.toNat).stack, declared := true, timer := none }
             else BackIdle s.desc s.blk t r.toNat { old with
                stack := (t.blk.road r.toNat).stack, declared := true, status := .idle
                timer := none }) ∧
            (∀ k n, ns[k]? = some n → n ≠ 0 → fleetFind s.blk n = none →
              Told s t .alarm (k + 1)
                ⟨0xC7, b1 11 ++ b2 n ++ b1 r.toNat ++ b2 s.desc.defaultLength⟩) ∧
            Told s t .road 1 (roadFrame 6 s.desc t.blk r.toNat []) ∧
            RoadFrame s t r.toNat)))

/-- R140, R141, R142: CONFIRM ROAD, BLOCK ROAD and UNBLOCK ROAD in RUNNING: BAD_VALUE for a road above 23,
NOT_FOUND for one not in use, else their effect, with one ROAD report (R145), or their refusal. A road that
enters IDLE is judged (R133).
The bytes of absent fields of a report are the model's reading (log entry 17). -/
def Obligations.DeskRoadRequests : Prop :=
  (∀ (c : Instr) (kind r : Byte) (l : LinkId) (s : State),
    (c = .blockRoad l r ∧ kind = 0x51) ∨ (c = .unblockRoad l r ∧ kind = 0x52) ∨
      (c = .confirmRoad l r ∧ kind = 0x53) →
    CanSend s l kind → s.blk.mode = .running →
    ∃ t, exec c s = .next t ∧
      (23 < r.toNat → OnlyAnswers s t l kind [0x12]) ∧
      (r.toNat ≤ 23 → s.desc.roadInUse r.toNat = false → OnlyAnswers s t l kind [0x30])) ∧
  ∀ (l : LinkId) (r : Byte) (s : State), s.blk.mode = .running → r.toNat ≤ 23 →
    s.desc.roadInUse r.toNat = true →
    let v := s.blk.road r.toNat
    let told := fun (t : State) (cause : Nat) =>
      OnlyReport s t (fun k => hasBit (s.blk.link k).subscription 3 = true)
        (roadFrame cause s.desc t.blk r.toNat [])
    (CanSend s l 0x53 → ∃ t, exec (.confirmRoad l r) s = .next t ∧
      if v.status ≠ .disagree then OnlyAnswers s t l 0x53 [0x35]
      else if (s.blk.sec (s.desc.roadMouth r.toNat)).occ ≠ .clear then
        OnlyAnswers s t l 0x53 [0x33]
      else
        AnswersWith s t l ⟨0x53, [0x00]⟩ ∧ RoadFrame s t r.toNat ∧
        BackIdle s.desc s.blk t r.toNat { v with status := .idle } ∧
        told t 7) ∧
    (CanSend s l 0x51 → ∃ t, exec (.blockRoad l r) s = .next t ∧
      if v.status = .arriving ∨ v.status = .departing then OnlyAnswers s t l 0x51 [0x35]
      else if v.status = .blocked then OnlyAnswers s t l 0x51 [0x00]
      else
        AnswersWith s t l ⟨0x51, [0x00]⟩ ∧
        t.blk.yard = setRoad r.toNat { v with status := .blocked, timer := none } s.blk.yard ∧
        told t 8) ∧
    (CanSend s l 0x52 → ∃ t, exec (.unblockRoad l r) s = .next t ∧
      if v.status ≠ .blocked then OnlyAnswers s t l 0x52 [0x00]
      else
        AnswersWith s t l ⟨0x52, [0x00]⟩ ∧ RoadFrame s t r.toNat ∧
        (if v.declared = true then BackIdle s.desc s.blk t r.toNat { v with status := .idle }
         else t.blk.road r.toNat = { v with status := .unknown }) ∧
        told t 9)

/-- R132, R133, R135: a change of a cell judges the road: an IDLE road that agrees stops its HOLD
timer, one that disagrees starts it; a SETTLING arrival that agrees completes. R133, R136: the HOLD
and ARRIVE timers' expiry makes the road DISAGREE. R135, R137, R138: the whole release of a route
that holds the road's mouth gives its notice: a hand release after entry starts the arrival's
agreement or removes the departed record; any other gives the reservation up. R152, R153: the
programme's RUNNING entry is finished by these: DONE by an arrival or a departure, FAILED by an arrival
that disagrees, by the cancel of its instance, and by its hand release where its tram neither has
departed nor arrived nor is settling. Each of these changes of a road posts its ROAD report (R145), and an
expiry the alarm ROAD_DISAGREE before it.
The bytes of absent fields of a report are the model's reading (log entry 17). -/
def Obligations.RoadTimersDisagree : Prop :=
  let told := fun (s t : State) (r cause : Nat) (last : List Byte) =>
    Told s t .road 1 (roadFrame cause s.desc t.blk r last)
  let disagrees := fun (s t : State) (r cause : Nat) (tram : Option Nat) =>
    ∀ k, Subscribes s .alarm k →
      Posted t k ⟨0xC7, b1 10 ++ b1 r ++ b1 cause ++ o2 tram ++ badCells s.desc t.blk r⟩
  (∀ (r : Nat) (s : State) (left : Nat), s.desc.inForce = true →
    ((s.blk.road r).timer = some ⟨.hold, left⟩ →
      ∃ t, exec (.holdTimerExpiry r) s = .next t ∧ OnlyBlocks s t ∧ LinksKept s t ∧
        t.blk.yard = setRoad r { s.blk.road r with status := .disagree, timer := none }
          s.blk.yard ∧
        told s t r 3 [] ∧ disagrees s t r 0 none) ∧
    ((s.blk.road r).timer = some ⟨.arrive, left⟩ →
      ∃ t, exec (.arriveTimerExpiry r) s = .next t ∧ OnlyBlocks s t ∧ LinksKept s t ∧
        t.blk.roads = tabSet s.blk.roads r { s.blk.road r with
          status := .disagree, phase := none, timer := none
          stack := (s.blk.road r).stack.dropLast ++
            ((s.blk.road r).stack.getLast?.map fun x => { x with state := .stabled }).toList } ∧
        t.blk.yard = { s.blk.yard with roads := t.blk.roads, prog := t.blk.prog } ∧
        told s t r 3 [] ∧
        ∀ x, (s.blk.road r).stack.getLast? = some x → disagrees s t r 1 (some x.tram) ∧
          Noticed s t .arrive r x.tram .failed (some .arrivalDisagree))) ∧
  (∀ (c : Instr) (n i r : Nat) (new : Occupancy) (s : State), s.desc.inForce = true →
    i < 96 → r < 24 → s.desc.secKind i = 3 → s.desc.secRoad i = r → (s.blk.sec i).owner = none →
    (c = .inputOccupied n ∧ s.desc.secOfInput n = some i ∧ (s.blk.sec i).occ = .clear ∧
        new = .occupied) ∨
      (c = .healthFault n ∧ s.desc.secOfInput n = some i ∧ (s.blk.sec i).occ ≠ .disturbed ∧
        new = .disturbed) ∨
      (c = .clearTimerExpiry i ∧ (s.blk.sec i).timer.isSome = true ∧ new = .clear) →
    (∀ x, (s.blk.road r).stack.getLast? = some x → (s.blk.road r).status = .arriving →
      x.state = .arriving) →
    let v := s.blk.road r
    let agrees := RoadAgrees s.desc (setSec i { s.blk.sec i with occ := new } s.blk) r
    ∃ t, exec c s = .next t ∧ t.desc = s.desc ∧ LinksKept s t ∧ (t.blk.sec i).occ = new ∧
      (∀ r', r' ≠ r → t.blk.road r' = s.blk.road r') ∧
      (v.status = .idle → agrees → t.blk.road r = { v with timer := none }) ∧
      (v.status = .idle → ¬agrees → t.blk.road r = { v with
        timer := if v.timer = none then some ⟨.hold, s.desc.tHold⟩ else v.timer }) ∧
      (v.status = .arriving → v.phase = some .settling → agrees →
        t.blk.road r = { v with
          status := .idle, phase := none, timer := none, stack := setTop .stabled v.stack } ∧
        told s t r 2 [] ∧
        ∀ x, v.stack.getLast? = some x → Noticed s t .arrive r x.tram .done none) ∧
      (v.status ≠ .idle → ¬(v.status = .arriving ∧ v.phase = some .settling ∧ agrees) →
        t.blk.road r = v)) ∧
  (∀ (c : Instr) (slot r : Nat) (v : RouteInst) (passed : Bool) (s : State),
    s.desc.inForce = true → s.blk.inst slot = some v → v.timer.isSome = true →
    (c = .approachTimerExpiry slot ∧ v.state = .cancelling ∧ passed = false) ∨
      (c = .handReleaseTimerExpiry slot ∧ v.state = .handReleasing ∧
        (passed = true ↔ HasEntered s.blk v)) →
    r < 24 → s.desc.roadMouth r ∈ v.unreleased →
    let rt := s.desc.route v.definition
    let old := s.blk.road r
    ∃ t, exec c s = .next t ∧ (∀ r', r' ≠ r → rt.origin = some r ∨ rt.dest = some r →
        rt.origin = none ∨ rt.dest = none → t.blk.road r' = s.blk.road r') ∧
      (rt.origin = some r → old.status = .departing →
        BackIdle s.desc s.blk t r { old with
          status := .idle
          stack := if passed = true then old.stack.dropLast else setTop .stabled old.stack } ∧
        ∀ x, old.stack.getLast? = some x →
          told s t r (if passed = true then 4 else 5) (b2 x.tram)) ∧
      (rt.origin = none → rt.dest = some r → v.shortenedAt = none → old.status = .arriving →
        old.phase = some .reserved →
        (passed = false →
          BackIdle s.desc s.blk t r { old with
            status := .idle, phase := none, stack := old.stack.dropLast } ∧
          ∀ x, old.stack.getLast? = some x → told s t r 5 (b2 x.tram)) ∧
        (passed = true →
          (RoadAgrees s.desc s.blk r →
            BackIdle s.desc s.blk t r { old with
              status := .idle, phase := none, timer := none, stack := setTop .stabled old.stack } ∧
            told s t r 2 []) ∧
          (¬RoadAgrees s.desc s.blk r → t.blk.road r = { old with
              phase := some .settling, timer := some ⟨.arrive, s.desc.tArrive⟩ } ∧
            told s t r 1 []))) ∧
      ((rt.origin ≠ some r ∧ (rt.origin ≠ none ∨ rt.dest ≠ some r ∨ v.shortenedAt ≠ none)) ∨
          (old.status ≠ .departing ∧ old.status ≠ .arriving) → t.blk.road r = old)) ∧
  (∀ (c : Instr) (slot m j : Nat) (v : RouteInst) (e : ProgEntry) (s : State),
    s.desc.inForce = true → s.blk.inst slot = some v → v.timer.isSome = true →
    v.movement = some m → FirstBad (fun e => e.movement = m) s.blk.prog.entries j →
    s.blk.prog.entries[j]? = some e → e.state = .running →
    let es := s.blk.prog.entries
    let rt := s.desc.route v.definition
    let ends := fun (t : State) (o : Outcome) =>
      MayOffer (es.set j { e with state := .failed, outcome := some o }) t.blk.prog.entries
    let finishes := fun (t : State) =>
      MayOffer (es.set j { e with state := .done, outcome := none }) t.blk.prog.entries
    (c = .approachTimerExpiry slot → v.state = .cancelling →
      ∃ t, exec c s = .next t ∧ ends t .cancelled) ∧
    (c = .handReleaseTimerExpiry slot → v.state = .handReleasing →
      ∃ t, exec c s = .next t ∧
        (¬HasEntered s.blk v ∨ (∀ r, r < 24 → s.desc.roadMouth r ∉ v.unreleased) →
          ¬(e.kind = .arrive ∧ (t.blk.road e.road).status = .arriving ∧
            (t.blk.road e.road).phase = some .settling ∧
            (t.blk.road e.road).stack.getLast?.map (·.tram) = some e.tram) →
          ends t .handReleased) ∧
        (∀ r x, HasEntered s.blk v → r < 24 → s.desc.roadMouth r ∈ v.unreleased →
          (s.blk.road r).stack.getLast? = some x →
          (rt.origin = some r → (s.blk.road r).status = .departing →
            NoticeFor s .depart r x.tram j → finishes t) ∧
          (rt.origin = none → rt.dest = some r → v.shortenedAt = none →
            (s.blk.road r).status = .arriving → (s.blk.road r).phase = some .reserved →
            NoticeFor s .arrive r x.tram j →
            (RoadAgrees s.desc s.blk r → finishes t) ∧
            (¬RoadAgrees s.desc s.blk r → MayOffer es t.blk.prog.entries)))))

/-- R126, R127: LOAD FLEET in RUNNING: the whole request is checked before anything changes, a count that is
not that of its entries (and so every count above 29) being BAD_VALUE;
REPLACE gives the list, ADD replaces the lengths of known trams and adds the others. -/
def Obligations.LoadFleetTaken : Prop :=
  ∀ (l : LinkId) (manner count : Byte) (items : List FleetItem) (s : State),
    CanSend s l 0x54 → s.blk.mode = .running → items.length ≤ 29 →
    ∃ t, exec (.loadFleet l manner count items) s = .next t ∧
      if 1 < manner.toNat ∨ count.toNat ≠ items.length ∨ (∃ e ∈ items, e.tram.toNat = 0 ∨ 9999 < e.tram.toNat ∨
          e.lengthCm.toNat < 800 ∨ 7000 < e.lengthCm.toNat) then
        OnlyAnswers s t l 0x54 [0x12]
      else if ¬(items.map (·.tram.toNat)).Nodup then OnlyAnswers s t l 0x54 [0x27]
      else if manner.toNat = 0 then
        AnswersWith s t l ⟨0x54, [0x00]⟩ ∧ NoReport s t ∧
        t.blk.yard = { s.blk.yard with
          fleet := items.map fun e => { tram := e.tram.toNat, lengthCm := e.lengthCm.toNat } }
      else if 160 < s.blk.fleet.length + (items.filter fun e =>
          !(s.blk.fleet.any fun x => x.tram == e.tram.toNat)).length then
        OnlyAnswers s t l 0x54 [0x28]
      else
        AnswersWith s t l ⟨0x54, [0x00]⟩ ∧ NoReport s t ∧
        t.blk.yard = { s.blk.yard with fleet := t.blk.fleet } ∧
        (∀ e ∈ items, fleetFind t.blk e.tram.toNat =
          some { tram := e.tram.toNat, lengthCm := e.lengthCm.toNat }) ∧
        ∀ n, (∀ e ∈ items, e.tram.toNat ≠ n) → fleetFind t.blk n = fleetFind s.blk n

/-! ### Calls, programme and clock -/

/-- R154, R155, R81, R144: CALL in RUNNING. At an ENTRY post the first unfinished ARRIVE entry for
the tram records the call, else the route of the first candidate whose road is IDLE, has fewer than 8
records and takes the tram's length takes a slot, else NO_ROAD. At an EXIT
post the road's stack refuses first, then the DEPART entry records it, then a DEPARTING record
refuses IN_USE, else the post's route takes a slot.  A recorded PLANNED entry becomes CALLED, or
DISPATCHED where the offer follows at once.  R24, R76: outside RUNNING it is WRONG_MODE; in QUIET
CALL_IN_QUIET goes to the links that subscribe to alarms. The bytes of absent fields of a report
are the model's reading (log entry 17). -/
def Obligations.CallChoosesRoad : Prop :=
  ∀ (l : LinkId) (post : Byte) (tram : Half) (s : State), CanSend s l 0x70 →
    let n := tram.toNat
    let entryOf := fun (kind : EntryKind) => if n = 0 then none else
      s.blk.prog.entries.findIdx? fun e => !e.finished && e.kind == kind && e.tram == n
    let recorded := fun (t : State) (i : Nat) => ∀ e, s.blk.prog.entries[i]? = some e →
      AnswersWith s t l ⟨0x70, 0x00 :: b2 e.movement⟩ ∧
      if e.state = .planned then
        t.blk.yard = { s.blk.yard with
          prog := { s.blk.prog with entries := t.blk.prog.entries } } ∧
        Offered s.desc s.blk.prog
          (s.blk.prog.entries.set i { e with state := .called, outcome := none })
          t.blk.prog.entries ∧
        OnlyReport s t (fun k => hasBit (s.blk.link k).subscription 4 = true)
          ⟨0xC5, b1 0 ++ b2 e.movement ++ b1 e.kind.code ++ b2 e.tram ++ b1 e.road ++ b1 0 ++
            b1 1 ++ b1 255 ++ b1 255⟩
      else t.blk.yard = s.blk.yard ∧ NoReport s t
    let walk := fun (t : State) (definition : Nat) => TakesSlot s t l
      { definition := definition, requester := .link l, origin := .call, store := true
        stopShort := false, key := 0, tram := n, movement := none }
    let stack := (s.blk.road (s.desc.postRoad post.toNat)).stack
    let top := stack.getLast?
    ∃ t, exec (.call l post tram) s = .next t ∧
      if s.blk.mode ≠ .running then
        AnswersWith s t l ⟨0x70, 0x14 :: b1 s.blk.mode.code⟩ ∧ t.blk.yard = s.blk.yard ∧
        (s.blk.mode ≠ .quiet → NoReport s t) ∧
        (s.blk.mode = .quiet →
          OnlyReport s t (fun k => hasBit (s.blk.link k).subscription 6 = true)
            ⟨0xC7, b1 12 ++ b1 post.toNat ++ b2 n⟩)
      else if 31 < post.toNat ∨ 9999 < n then OnlyAnswers s t l 0x70 [0x12]
      else if s.desc.postInUse post.toNat = false then OnlyAnswers s t l 0x70 [0x30]
      else if s.desc.postKind post.toNat ≠ 1 then
        match entryOf .arrive with
        | some i => recorded t i
        | none =>
          (∀ definition, Chooses s.desc s.blk post.toNat n definition → walk t definition) ∧
          ((∀ definition, ¬Chooses s.desc s.blk post.toNat n definition) →
            OnlyAnswers s t l 0x70 [0x29])
      else if stack = [] then OnlyAnswers s t l 0x70 [0x30]
      else if n ≠ 0 ∧ top.map (·.tram) ≠ some n then
        OnlyAnswers s t l 0x70 (if ∃ x ∈ stack, x.tram = n then [0x26] else [0x30])
      else
        match entryOf .depart with
        | some i => recorded t i
        | none =>
          if top.map (·.state) = some .departing then OnlyAnswers s t l 0x70 [0x35]
          else walk t (s.desc.postRoute post.toNat)

/-- R156, R160: HOLD PROGRAMME, individual and broadcast, and RESUME PROGRAMME, in RUNNING: a change
of the flag posts one PROGRAMME report HOLD or RESUME, and a RESUME judges the offer at once (R150).
Where the flag does not change nothing else does. -/
def Obligations.HoldAndResumeProgramme : Prop :=
  ∀ (l : LinkId) (s : State), s.blk.mode = .running →
    let held := if s.blk.prog.hold = true then s.blk.prog else
      { s.blk.prog with
        hold := true
        entries := s.blk.prog.entries.map fun e =>
          if e.state = .dispatched then { e with state := .called, tried := false } else e }
    let told := fun (t : State) (was : Bool) (cause : Nat) => if s.blk.prog.hold = was then
        OnlyReport s t (fun k => hasBit (s.blk.link k).subscription 4 = true) ⟨0xC5, b1 cause⟩
      else NoReport s t
    (CanSend s l 0x63 → ∃ t, exec (.holdProgramme l false) s = .next t ∧
      AnswersWith s t l ⟨0x63, [0x00]⟩ ∧ t.blk.yard = { s.blk.yard with prog := held } ∧
      told t false 1) ∧
    ((s.blk.link l).rx ≠ .inBreak → (s.blk.link l).role = some .desk →
      ∃ t, exec (.holdProgramme l true) s = .next t ∧ OnlyBlocks s t ∧ LinkMoves s t l id ∧
        t.blk.yard = { s.blk.yard with prog := held } ∧ told t false 1) ∧
    (CanSend s l 0x64 → ∃ t, exec (.resumeProgramme l) s = .next t ∧
      AnswersWith s t l ⟨0x64, [0x00]⟩ ∧ told t true 2 ∧
      t.blk.yard = { s.blk.yard with
        prog := { s.blk.prog with hold := false, entries := t.blk.prog.entries } } ∧
      (s.blk.prog.hold = false → t.blk.yard = s.blk.yard) ∧
      (s.blk.prog.hold = true →
        Offered s.desc { s.blk.prog with hold := false } s.blk.prog.entries t.blk.prog.entries))

/-- R157: SKIP ENTRY: from a link that is neither desk nor planner NOT_PERMITTED; outside
RUNNING WRONG_MODE; in RUNNING the named entry, when PLANNED or CALLED, becomes SKIPPED with its
PROGRAMME report, the other entries standing but for one CALLED entry that the moved window may
offer. -/
def Obligations.SkipEntryTaken : Prop :=
  ∀ (l : LinkId) (movement : Half) (s : State),
    (Hears s l → (s.blk.link l).occupancy < 4 → s.desc.inForce = true →
      (s.blk.link l).role ≠ some .desk → (s.blk.link l).role ≠ some .planner →
      ∃ t, exec (.skipEntry l movement) s = .next t ∧ OnlyAnswers s t l 0x62 [0x13]) ∧
    (CanSend s l 0x62 → s.blk.mode ≠ .running →
      ∃ t, exec (.skipEntry l movement) s = .next t ∧
        OnlyAnswers s t l 0x62 (0x14 :: b1 s.blk.mode.code)) ∧
    (CanSend s l 0x62 → s.blk.mode = .running →
      ∃ t, exec (.skipEntry l movement) s = .next t ∧
        if movement.toNat = 0 then OnlyAnswers s t l 0x62 [0x12]
        else match s.blk.prog.entries.findIdx? fun e => e.movement == movement.toNat with
          | none => OnlyAnswers s t l 0x62 [0x30]
          | some i =>
            ∀ e, s.blk.prog.entries[i]? = some e →
              if e.state = .planned ∨ e.state = .called then
                AnswersWith s t l ⟨0x62, [0x00]⟩ ∧
                Offered s.desc s.blk.prog
                  (s.blk.prog.entries.set i { e with state := .skipped, outcome := none })
                  t.blk.prog.entries ∧
                t.blk.yard = { s.blk.yard with
                  prog := { s.blk.prog with entries := t.blk.prog.entries } } ∧
                ∀ k, Subscribes s .programme k → ∃ rest,
                  Posted t k ⟨0xC5, b1 0 ++ b2 e.movement ++ b1 e.kind.code ++ b2 e.tram ++
                    b1 e.road ++ b1 e.state.code ++ b1 6 ++ rest⟩
              else OnlyAnswers s t l 0x62 [0x35])

/-- R158, R159, R149, R150: LOAD PROGRAMME and APPEND PROGRAMME in RUNNING. LOAD is refused IN_USE
while an entry is DISPATCHED or RUNNING; then the count check and checks 1 to 4 refuse either, and
checks 5 and 6 an APPEND, with nothing changed. Else the entries are those of the request, PLANNED
and untried, in an APPEND behind the old list without its finished head; auto-departures that are
due become CALLED, and one entry may be offered. That a count other than that of the entries is
BAD_VALUE, and that a DUPLICATE gives the place of the first entry whose number is repeated, are the
model's choices (log entry 19); so is that an auto-flag byte of 2 to 255 is refused by no check of its own
and read as a free value (log entry 8). -/
def Obligations.ProgrammeLoadedAndAppended : Prop :=
  ∀ (l : LinkId) (count : Byte) (items : List ProgItem) (s : State), s.blk.mode = .running →
    items.length ≤ 11 →
    let old := s.blk.prog.entries
    let busy := ∃ e ∈ old, e.state = .dispatched ∨ e.state = .running
    let kept := old.dropWhile ProgEntry.finished
    let sound := count.toNat = items.length ∧ ∀ e ∈ items, ¬BadItem e ∧ ¬UnknownItem s.desc e ∧
      ¬StrayItem s.desc e ∧ ¬RepeatedItem s.blk items e
    let listed := fun (e : ProgItem) => ∃ x ∈ old, x.movement = e.movement.toNat
    let becomes := fun (t : State) (es : List ProgEntry) (f : List Byte) =>
      t.blk.yard = { s.blk.yard with prog := { s.blk.prog with entries := t.blk.prog.entries } } ∧
      Offered s.desc s.blk.prog (es.map (autoCalled s.blk.prog.clock)) t.blk.prog.entries ∧
      ∀ k, Subscribes s .programme k → Posted t k ⟨0xC5, f⟩
    (CanSend s l 0x60 → ∃ t, exec (.loadProgramme l count items) s = .next t ∧
      (busy → OnlyAnswers s t l 0x60 [0x35]) ∧
      (¬busy → ∀ body, RequestRefused s.desc s.blk count.toNat items body →
        OnlyAnswers s t l 0x60 body) ∧
      (¬busy → sound → AnswersWith s t l ⟨0x60, [0x00]⟩ ∧
        becomes t (items.map progEntryOf) (b1 3 ++ b1 items.length))) ∧
    (CanSend s l 0x61 → ∃ t, exec (.appendProgramme l count items) s = .next t ∧
      (∀ body, RequestRefused s.desc s.blk count.toNat items body →
        OnlyAnswers s t l 0x61 body) ∧
      (sound →
        (∀ n, FirstBad listed items n → OnlyAnswers s t l 0x61 (0x27 :: b1 n)) ∧
        ((∀ e ∈ items, ¬listed e) →
          (64 < kept.length + items.length → OnlyAnswers s t l 0x61 [0x28]) ∧
          (kept.length + items.length ≤ 64 → AnswersWith s t l ⟨0x61, [0x00]⟩ ∧
            becomes t (kept ++ items.map progEntryOf)
              (b1 4 ++ b1 items.length ++ b1 (old.length - kept.length))))))

/-- R148, R149, R150: TIME, individual and broadcast, sets the clock and restarts the minute timer in every
mode with a description; the minute timer's expiry advances the clock, from 1439 to 0. In RUNNING each
auto-departure that is now due becomes CALLED, with its report, and one entry may be offered; in PROVING,
QUIET and WAKING the entries stand and nothing is reported. That several auto-departures due at once are
called and reported in list order is the model's choice (log entry 36).
The bytes of absent fields of a report are the model's reading (log entry 17). -/
def Obligations.ClockSetAndAdvanced : Prop :=
  ∀ (l : LinkId) (m : Half) (s : State), s.blk.mode.inForce = true → s.desc.inForce = true →
    let becomes := fun (t : State) (clock : Nat) =>
      t.blk.yard = { s.blk.yard with prog := { s.blk.prog with
        clock := some clock, minuteTimer := some 600, entries := t.blk.prog.entries } } ∧
      (s.blk.mode = .running →
        Offered s.desc { s.blk.prog with clock := some clock }
          (s.blk.prog.entries.map (autoCalled (some clock))) t.blk.prog.entries ∧
        CallsTold s t (some clock)) ∧
      (s.blk.mode ≠ .running → t.blk.prog.entries = s.blk.prog.entries ∧ NoReport s t)
    (CanSend s l 0x7F → m.toNat ≤ 1439 → ∃ t, exec (.time l false m) s = .next t ∧
      AnswersWith s t l ⟨0x7F, [0x00]⟩ ∧ becomes t m.toNat) ∧
    (CanSend s l 0x7F → 1439 < m.toNat → ∃ t, exec (.time l false m) s = .next t ∧
      OnlyAnswers s t l 0x7F [0x12]) ∧
    ((s.blk.link l).rx ≠ .inBreak → (s.blk.link l).role = some .desk →
      ∃ t, exec (.time l true m) s = .next t ∧ OnlyBlocks s t ∧ LinkMoves s t l id ∧
        (m.toNat ≤ 1439 → becomes t m.toNat) ∧
        (1439 < m.toNat → t.blk.yard = s.blk.yard ∧ NoReport s t)) ∧
    (∀ c, s.blk.prog.clock = some c → s.blk.prog.minuteTimer.isSome = true →
      ∃ t, exec .minuteTimerExpiry s = .next t ∧ OnlyBlocks s t ∧ LinksKept s t ∧
        becomes t (if c = 1439 then 0 else c + 1))
end

