-- ==== Sys2Proof/Laws/State.lean ====
section
/-! SUPPORT. State and its updates: one lemma per field per update, and the tables read back
after a write. -/

namespace Sys2Proof.Machine

/-! ### Tables -/

@[simp] theorem tabGet_tabSet_same {α : Type} {n : Nat} (t : Vector α n) (dflt v : α) (i : Nat)
    (h : i < n) : tabGet (tabSet t i v) dflt i = v := by
  simp [tabGet, tabSet, h]

theorem tabGet_tabSet_other {α : Type} {n : Nat} (t : Vector α n) (dflt v : α) (i j : Nat)
    (h : i ≠ j) : tabGet (tabSet t i v) dflt j = tabGet t dflt j := by
  simp [tabGet, tabSet, h]

theorem tabSet_outside {α : Type} {n : Nat} (t : Vector α n) (v : α) (i : Nat) (h : n ≤ i) :
    tabSet t i v = t := by
  ext j hj
  simp only [tabSet, Vector.getElem_setIfInBounds]
  split
  · omega
  · rfl

theorem tabGet_replicate {α : Type} (n : Nat) (v : α) (i : Nat) :
    tabGet (Vector.replicate n v) v i = v := by
  simp only [tabGet, Vector.getElem?_replicate]
  split <;> rfl

@[simp] theorem PerLink.get_set_same {α : Type} (p : PerLink α) (l : LinkId) (v : α) :
    (p.set l v).get l = v := by cases l <;> rfl

theorem PerLink.get_set_other {α : Type} (p : PerLink α) (l k : LinkId) (v : α) (h : l ≠ k) :
    (p.set l v).get k = p.get k := by
  cases l <;> cases k <;> first | rfl | exact absurd rfl h

/-! ### Fields after an update -/

@[simp] theorem setSec_ctl (i : Nat) (v : SectionState) (y : Blocks) : (setSec i v y).ctl = y.ctl := rfl
@[simp] theorem setSec_secs (i : Nat) (v : SectionState) (y : Blocks) : (setSec i v y).secs = tabSet y.secs i v := rfl
@[simp] theorem setSec_settleWatch (i : Nat) (v : SectionState) (y : Blocks) : (setSec i v y).settleWatch = y.settleWatch := rfl
@[simp] theorem setSec_sigs (i : Nat) (v : SectionState) (y : Blocks) : (setSec i v y).sigs = y.sigs := rfl
@[simp] theorem setSec_pts (i : Nat) (v : SectionState) (y : Blocks) : (setSec i v y).pts = y.pts := rfl
@[simp] theorem setSec_queue (i : Nat) (v : SectionState) (y : Blocks) : (setSec i v y).queue = y.queue := rfl
@[simp] theorem setSec_slots (i : Nat) (v : SectionState) (y : Blocks) : (setSec i v y).slots = y.slots := rfl
@[simp] theorem setSec_tst (i : Nat) (v : SectionState) (y : Blocks) : (setSec i v y).tst = y.tst := rfl
@[simp] theorem setSec_rot (i : Nat) (v : SectionState) (y : Blocks) : (setSec i v y).rot = y.rot := rfl
@[simp] theorem setSec_insts (i : Nat) (v : SectionState) (y : Blocks) : (setSec i v y).insts = y.insts := rfl
@[simp] theorem setSec_wait (i : Nat) (v : SectionState) (y : Blocks) : (setSec i v y).wait = y.wait := rfl
@[simp] theorem setSec_roads (i : Nat) (v : SectionState) (y : Blocks) : (setSec i v y).roads = y.roads := rfl
@[simp] theorem setSec_fleet (i : Nat) (v : SectionState) (y : Blocks) : (setSec i v y).fleet = y.fleet := rfl
@[simp] theorem setSec_prog (i : Nat) (v : SectionState) (y : Blocks) : (setSec i v y).prog = y.prog := rfl
@[simp] theorem setSec_areas (i : Nat) (v : SectionState) (y : Blocks) : (setSec i v y).areas = y.areas := rfl
@[simp] theorem setSec_links (i : Nat) (v : SectionState) (y : Blocks) : (setSec i v y).links = y.links := rfl
@[simp] theorem setSec_reps (i : Nat) (v : SectionState) (y : Blocks) : (setSec i v y).reps = y.reps := rfl
@[simp] theorem setSec_out (i : Nat) (v : SectionState) (y : Blocks) : (setSec i v y).out = y.out := rfl

@[simp] theorem setSig_ctl (i : Nat) (v : SignalState) (y : Blocks) : (setSig i v y).ctl = y.ctl := rfl
@[simp] theorem setSig_secs (i : Nat) (v : SignalState) (y : Blocks) : (setSig i v y).secs = y.secs := rfl
@[simp] theorem setSig_settleWatch (i : Nat) (v : SignalState) (y : Blocks) : (setSig i v y).settleWatch = y.settleWatch := rfl
@[simp] theorem setSig_sigs (i : Nat) (v : SignalState) (y : Blocks) : (setSig i v y).sigs = tabSet y.sigs i v := rfl
@[simp] theorem setSig_pts (i : Nat) (v : SignalState) (y : Blocks) : (setSig i v y).pts = y.pts := rfl
@[simp] theorem setSig_queue (i : Nat) (v : SignalState) (y : Blocks) : (setSig i v y).queue = y.queue := rfl
@[simp] theorem setSig_slots (i : Nat) (v : SignalState) (y : Blocks) : (setSig i v y).slots = y.slots := rfl
@[simp] theorem setSig_tst (i : Nat) (v : SignalState) (y : Blocks) : (setSig i v y).tst = y.tst := rfl
@[simp] theorem setSig_rot (i : Nat) (v : SignalState) (y : Blocks) : (setSig i v y).rot = y.rot := rfl
@[simp] theorem setSig_insts (i : Nat) (v : SignalState) (y : Blocks) : (setSig i v y).insts = y.insts := rfl
@[simp] theorem setSig_wait (i : Nat) (v : SignalState) (y : Blocks) : (setSig i v y).wait = y.wait := rfl
@[simp] theorem setSig_roads (i : Nat) (v : SignalState) (y : Blocks) : (setSig i v y).roads = y.roads := rfl
@[simp] theorem setSig_fleet (i : Nat) (v : SignalState) (y : Blocks) : (setSig i v y).fleet = y.fleet := rfl
@[simp] theorem setSig_prog (i : Nat) (v : SignalState) (y : Blocks) : (setSig i v y).prog = y.prog := rfl
@[simp] theorem setSig_areas (i : Nat) (v : SignalState) (y : Blocks) : (setSig i v y).areas = y.areas := rfl
@[simp] theorem setSig_links (i : Nat) (v : SignalState) (y : Blocks) : (setSig i v y).links = y.links := rfl
@[simp] theorem setSig_reps (i : Nat) (v : SignalState) (y : Blocks) : (setSig i v y).reps = y.reps := rfl
@[simp] theorem setSig_out (i : Nat) (v : SignalState) (y : Blocks) : (setSig i v y).out = y.out := rfl

@[simp] theorem setPt_ctl (i : Nat) (v : PointState) (y : Blocks) : (setPt i v y).ctl = y.ctl := rfl
@[simp] theorem setPt_secs (i : Nat) (v : PointState) (y : Blocks) : (setPt i v y).secs = y.secs := rfl
@[simp] theorem setPt_settleWatch (i : Nat) (v : PointState) (y : Blocks) : (setPt i v y).settleWatch = y.settleWatch := rfl
@[simp] theorem setPt_sigs (i : Nat) (v : PointState) (y : Blocks) : (setPt i v y).sigs = y.sigs := rfl
@[simp] theorem setPt_pts (i : Nat) (v : PointState) (y : Blocks) : (setPt i v y).pts = tabSet y.pts i v := rfl
@[simp] theorem setPt_queue (i : Nat) (v : PointState) (y : Blocks) : (setPt i v y).queue = y.queue := rfl
@[simp] theorem setPt_slots (i : Nat) (v : PointState) (y : Blocks) : (setPt i v y).slots = y.slots := rfl
@[simp] theorem setPt_tst (i : Nat) (v : PointState) (y : Blocks) : (setPt i v y).tst = y.tst := rfl
@[simp] theorem setPt_rot (i : Nat) (v : PointState) (y : Blocks) : (setPt i v y).rot = y.rot := rfl
@[simp] theorem setPt_insts (i : Nat) (v : PointState) (y : Blocks) : (setPt i v y).insts = y.insts := rfl
@[simp] theorem setPt_wait (i : Nat) (v : PointState) (y : Blocks) : (setPt i v y).wait = y.wait := rfl
@[simp] theorem setPt_roads (i : Nat) (v : PointState) (y : Blocks) : (setPt i v y).roads = y.roads := rfl
@[simp] theorem setPt_fleet (i : Nat) (v : PointState) (y : Blocks) : (setPt i v y).fleet = y.fleet := rfl
@[simp] theorem setPt_prog (i : Nat) (v : PointState) (y : Blocks) : (setPt i v y).prog = y.prog := rfl
@[simp] theorem setPt_areas (i : Nat) (v : PointState) (y : Blocks) : (setPt i v y).areas = y.areas := rfl
@[simp] theorem setPt_links (i : Nat) (v : PointState) (y : Blocks) : (setPt i v y).links = y.links := rfl
@[simp] theorem setPt_reps (i : Nat) (v : PointState) (y : Blocks) : (setPt i v y).reps = y.reps := rfl
@[simp] theorem setPt_out (i : Nat) (v : PointState) (y : Blocks) : (setPt i v y).out = y.out := rfl

@[simp] theorem setInst_ctl (i : Nat) (v : Option RouteInst) (y : Blocks) : (setInst i v y).ctl = y.ctl := rfl
@[simp] theorem setInst_secs (i : Nat) (v : Option RouteInst) (y : Blocks) : (setInst i v y).secs = y.secs := rfl
@[simp] theorem setInst_settleWatch (i : Nat) (v : Option RouteInst) (y : Blocks) : (setInst i v y).settleWatch = y.settleWatch := rfl
@[simp] theorem setInst_sigs (i : Nat) (v : Option RouteInst) (y : Blocks) : (setInst i v y).sigs = y.sigs := rfl
@[simp] theorem setInst_pts (i : Nat) (v : Option RouteInst) (y : Blocks) : (setInst i v y).pts = y.pts := rfl
@[simp] theorem setInst_queue (i : Nat) (v : Option RouteInst) (y : Blocks) : (setInst i v y).queue = y.queue := rfl
@[simp] theorem setInst_slots (i : Nat) (v : Option RouteInst) (y : Blocks) : (setInst i v y).slots = y.slots := rfl
@[simp] theorem setInst_tst (i : Nat) (v : Option RouteInst) (y : Blocks) : (setInst i v y).tst = y.tst := rfl
@[simp] theorem setInst_rot (i : Nat) (v : Option RouteInst) (y : Blocks) : (setInst i v y).rot = y.rot := rfl
@[simp] theorem setInst_insts (i : Nat) (v : Option RouteInst) (y : Blocks) : (setInst i v y).insts = tabSet y.insts i v := rfl
@[simp] theorem setInst_wait (i : Nat) (v : Option RouteInst) (y : Blocks) : (setInst i v y).wait = y.wait := rfl
@[simp] theorem setInst_roads (i : Nat) (v : Option RouteInst) (y : Blocks) : (setInst i v y).roads = y.roads := rfl
@[simp] theorem setInst_fleet (i : Nat) (v : Option RouteInst) (y : Blocks) : (setInst i v y).fleet = y.fleet := rfl
@[simp] theorem setInst_prog (i : Nat) (v : Option RouteInst) (y : Blocks) : (setInst i v y).prog = y.prog := rfl
@[simp] theorem setInst_areas (i : Nat) (v : Option RouteInst) (y : Blocks) : (setInst i v y).areas = y.areas := rfl
@[simp] theorem setInst_links (i : Nat) (v : Option RouteInst) (y : Blocks) : (setInst i v y).links = y.links := rfl
@[simp] theorem setInst_reps (i : Nat) (v : Option RouteInst) (y : Blocks) : (setInst i v y).reps = y.reps := rfl
@[simp] theorem setInst_out (i : Nat) (v : Option RouteInst) (y : Blocks) : (setInst i v y).out = y.out := rfl

@[simp] theorem setRoad_ctl (i : Nat) (v : RoadState) (y : Blocks) : (setRoad i v y).ctl = y.ctl := rfl
@[simp] theorem setRoad_secs (i : Nat) (v : RoadState) (y : Blocks) : (setRoad i v y).secs = y.secs := rfl
@[simp] theorem setRoad_settleWatch (i : Nat) (v : RoadState) (y : Blocks) : (setRoad i v y).settleWatch = y.settleWatch := rfl
@[simp] theorem setRoad_sigs (i : Nat) (v : RoadState) (y : Blocks) : (setRoad i v y).sigs = y.sigs := rfl
@[simp] theorem setRoad_pts (i : Nat) (v : RoadState) (y : Blocks) : (setRoad i v y).pts = y.pts := rfl
@[simp] theorem setRoad_queue (i : Nat) (v : RoadState) (y : Blocks) : (setRoad i v y).queue = y.queue := rfl
@[simp] theorem setRoad_slots (i : Nat) (v : RoadState) (y : Blocks) : (setRoad i v y).slots = y.slots := rfl
@[simp] theorem setRoad_tst (i : Nat) (v : RoadState) (y : Blocks) : (setRoad i v y).tst = y.tst := rfl
@[simp] theorem setRoad_rot (i : Nat) (v : RoadState) (y : Blocks) : (setRoad i v y).rot = y.rot := rfl
@[simp] theorem setRoad_insts (i : Nat) (v : RoadState) (y : Blocks) : (setRoad i v y).insts = y.insts := rfl
@[simp] theorem setRoad_wait (i : Nat) (v : RoadState) (y : Blocks) : (setRoad i v y).wait = y.wait := rfl
@[simp] theorem setRoad_roads (i : Nat) (v : RoadState) (y : Blocks) : (setRoad i v y).roads = tabSet y.roads i v := rfl
@[simp] theorem setRoad_fleet (i : Nat) (v : RoadState) (y : Blocks) : (setRoad i v y).fleet = y.fleet := rfl
@[simp] theorem setRoad_prog (i : Nat) (v : RoadState) (y : Blocks) : (setRoad i v y).prog = y.prog := rfl
@[simp] theorem setRoad_areas (i : Nat) (v : RoadState) (y : Blocks) : (setRoad i v y).areas = y.areas := rfl
@[simp] theorem setRoad_links (i : Nat) (v : RoadState) (y : Blocks) : (setRoad i v y).links = y.links := rfl
@[simp] theorem setRoad_reps (i : Nat) (v : RoadState) (y : Blocks) : (setRoad i v y).reps = y.reps := rfl
@[simp] theorem setRoad_out (i : Nat) (v : RoadState) (y : Blocks) : (setRoad i v y).out = y.out := rfl

@[simp] theorem setArea_ctl (i : Nat) (v : AreaState) (y : Blocks) : (setArea i v y).ctl = y.ctl := rfl
@[simp] theorem setArea_secs (i : Nat) (v : AreaState) (y : Blocks) : (setArea i v y).secs = y.secs := rfl
@[simp] theorem setArea_settleWatch (i : Nat) (v : AreaState) (y : Blocks) : (setArea i v y).settleWatch = y.settleWatch := rfl
@[simp] theorem setArea_sigs (i : Nat) (v : AreaState) (y : Blocks) : (setArea i v y).sigs = y.sigs := rfl
@[simp] theorem setArea_pts (i : Nat) (v : AreaState) (y : Blocks) : (setArea i v y).pts = y.pts := rfl
@[simp] theorem setArea_queue (i : Nat) (v : AreaState) (y : Blocks) : (setArea i v y).queue = y.queue := rfl
@[simp] theorem setArea_slots (i : Nat) (v : AreaState) (y : Blocks) : (setArea i v y).slots = y.slots := rfl
@[simp] theorem setArea_tst (i : Nat) (v : AreaState) (y : Blocks) : (setArea i v y).tst = y.tst := rfl
@[simp] theorem setArea_rot (i : Nat) (v : AreaState) (y : Blocks) : (setArea i v y).rot = y.rot := rfl
@[simp] theorem setArea_insts (i : Nat) (v : AreaState) (y : Blocks) : (setArea i v y).insts = y.insts := rfl
@[simp] theorem setArea_wait (i : Nat) (v : AreaState) (y : Blocks) : (setArea i v y).wait = y.wait := rfl
@[simp] theorem setArea_roads (i : Nat) (v : AreaState) (y : Blocks) : (setArea i v y).roads = y.roads := rfl
@[simp] theorem setArea_fleet (i : Nat) (v : AreaState) (y : Blocks) : (setArea i v y).fleet = y.fleet := rfl
@[simp] theorem setArea_prog (i : Nat) (v : AreaState) (y : Blocks) : (setArea i v y).prog = y.prog := rfl
@[simp] theorem setArea_areas (i : Nat) (v : AreaState) (y : Blocks) : (setArea i v y).areas = tabSet y.areas i v := rfl
@[simp] theorem setArea_links (i : Nat) (v : AreaState) (y : Blocks) : (setArea i v y).links = y.links := rfl
@[simp] theorem setArea_reps (i : Nat) (v : AreaState) (y : Blocks) : (setArea i v y).reps = y.reps := rfl
@[simp] theorem setArea_out (i : Nat) (v : AreaState) (y : Blocks) : (setArea i v y).out = y.out := rfl

@[simp] theorem setLink_ctl (l : LinkId) (v : LinkUnit) (y : Blocks) : (setLink l v y).ctl = y.ctl := rfl
@[simp] theorem setLink_secs (l : LinkId) (v : LinkUnit) (y : Blocks) : (setLink l v y).secs = y.secs := rfl
@[simp] theorem setLink_settleWatch (l : LinkId) (v : LinkUnit) (y : Blocks) : (setLink l v y).settleWatch = y.settleWatch := rfl
@[simp] theorem setLink_sigs (l : LinkId) (v : LinkUnit) (y : Blocks) : (setLink l v y).sigs = y.sigs := rfl
@[simp] theorem setLink_pts (l : LinkId) (v : LinkUnit) (y : Blocks) : (setLink l v y).pts = y.pts := rfl
@[simp] theorem setLink_queue (l : LinkId) (v : LinkUnit) (y : Blocks) : (setLink l v y).queue = y.queue := rfl
@[simp] theorem setLink_slots (l : LinkId) (v : LinkUnit) (y : Blocks) : (setLink l v y).slots = y.slots := rfl
@[simp] theorem setLink_tst (l : LinkId) (v : LinkUnit) (y : Blocks) : (setLink l v y).tst = y.tst := rfl
@[simp] theorem setLink_rot (l : LinkId) (v : LinkUnit) (y : Blocks) : (setLink l v y).rot = y.rot := rfl
@[simp] theorem setLink_insts (l : LinkId) (v : LinkUnit) (y : Blocks) : (setLink l v y).insts = y.insts := rfl
@[simp] theorem setLink_wait (l : LinkId) (v : LinkUnit) (y : Blocks) : (setLink l v y).wait = y.wait := rfl
@[simp] theorem setLink_roads (l : LinkId) (v : LinkUnit) (y : Blocks) : (setLink l v y).roads = y.roads := rfl
@[simp] theorem setLink_fleet (l : LinkId) (v : LinkUnit) (y : Blocks) : (setLink l v y).fleet = y.fleet := rfl
@[simp] theorem setLink_prog (l : LinkId) (v : LinkUnit) (y : Blocks) : (setLink l v y).prog = y.prog := rfl
@[simp] theorem setLink_areas (l : LinkId) (v : LinkUnit) (y : Blocks) : (setLink l v y).areas = y.areas := rfl
@[simp] theorem setLink_links (l : LinkId) (v : LinkUnit) (y : Blocks) : (setLink l v y).links = y.links.set l v := rfl
@[simp] theorem setLink_reps (l : LinkId) (v : LinkUnit) (y : Blocks) : (setLink l v y).reps = y.reps := rfl
@[simp] theorem setLink_out (l : LinkId) (v : LinkUnit) (y : Blocks) : (setLink l v y).out = y.out := rfl

@[simp] theorem setRep_ctl (l : LinkId) (v : ReportUnit) (y : Blocks) : (setRep l v y).ctl = y.ctl := rfl
@[simp] theorem setRep_secs (l : LinkId) (v : ReportUnit) (y : Blocks) : (setRep l v y).secs = y.secs := rfl
@[simp] theorem setRep_settleWatch (l : LinkId) (v : ReportUnit) (y : Blocks) : (setRep l v y).settleWatch = y.settleWatch := rfl
@[simp] theorem setRep_sigs (l : LinkId) (v : ReportUnit) (y : Blocks) : (setRep l v y).sigs = y.sigs := rfl
@[simp] theorem setRep_pts (l : LinkId) (v : ReportUnit) (y : Blocks) : (setRep l v y).pts = y.pts := rfl
@[simp] theorem setRep_queue (l : LinkId) (v : ReportUnit) (y : Blocks) : (setRep l v y).queue = y.queue := rfl
@[simp] theorem setRep_slots (l : LinkId) (v : ReportUnit) (y : Blocks) : (setRep l v y).slots = y.slots := rfl
@[simp] theorem setRep_tst (l : LinkId) (v : ReportUnit) (y : Blocks) : (setRep l v y).tst = y.tst := rfl
@[simp] theorem setRep_rot (l : LinkId) (v : ReportUnit) (y : Blocks) : (setRep l v y).rot = y.rot := rfl
@[simp] theorem setRep_insts (l : LinkId) (v : ReportUnit) (y : Blocks) : (setRep l v y).insts = y.insts := rfl
@[simp] theorem setRep_wait (l : LinkId) (v : ReportUnit) (y : Blocks) : (setRep l v y).wait = y.wait := rfl
@[simp] theorem setRep_roads (l : LinkId) (v : ReportUnit) (y : Blocks) : (setRep l v y).roads = y.roads := rfl
@[simp] theorem setRep_fleet (l : LinkId) (v : ReportUnit) (y : Blocks) : (setRep l v y).fleet = y.fleet := rfl
@[simp] theorem setRep_prog (l : LinkId) (v : ReportUnit) (y : Blocks) : (setRep l v y).prog = y.prog := rfl
@[simp] theorem setRep_areas (l : LinkId) (v : ReportUnit) (y : Blocks) : (setRep l v y).areas = y.areas := rfl
@[simp] theorem setRep_links (l : LinkId) (v : ReportUnit) (y : Blocks) : (setRep l v y).links = y.links := rfl
@[simp] theorem setRep_reps (l : LinkId) (v : ReportUnit) (y : Blocks) : (setRep l v y).reps = y.reps.set l v := rfl
@[simp] theorem setRep_out (l : LinkId) (v : ReportUnit) (y : Blocks) : (setRep l v y).out = y.out := rfl

@[simp] theorem emit_ctl (c : FieldCmd) (y : Blocks) : (emit c y).ctl = y.ctl := rfl
@[simp] theorem emit_secs (c : FieldCmd) (y : Blocks) : (emit c y).secs = y.secs := rfl
@[simp] theorem emit_settleWatch (c : FieldCmd) (y : Blocks) : (emit c y).settleWatch = y.settleWatch := rfl
@[simp] theorem emit_sigs (c : FieldCmd) (y : Blocks) : (emit c y).sigs = y.sigs := rfl
@[simp] theorem emit_pts (c : FieldCmd) (y : Blocks) : (emit c y).pts = y.pts := rfl
@[simp] theorem emit_queue (c : FieldCmd) (y : Blocks) : (emit c y).queue = y.queue := rfl
@[simp] theorem emit_slots (c : FieldCmd) (y : Blocks) : (emit c y).slots = y.slots := rfl
@[simp] theorem emit_tst (c : FieldCmd) (y : Blocks) : (emit c y).tst = y.tst := rfl
@[simp] theorem emit_rot (c : FieldCmd) (y : Blocks) : (emit c y).rot = y.rot := rfl
@[simp] theorem emit_insts (c : FieldCmd) (y : Blocks) : (emit c y).insts = y.insts := rfl
@[simp] theorem emit_wait (c : FieldCmd) (y : Blocks) : (emit c y).wait = y.wait := rfl
@[simp] theorem emit_roads (c : FieldCmd) (y : Blocks) : (emit c y).roads = y.roads := rfl
@[simp] theorem emit_fleet (c : FieldCmd) (y : Blocks) : (emit c y).fleet = y.fleet := rfl
@[simp] theorem emit_prog (c : FieldCmd) (y : Blocks) : (emit c y).prog = y.prog := rfl
@[simp] theorem emit_areas (c : FieldCmd) (y : Blocks) : (emit c y).areas = y.areas := rfl
@[simp] theorem emit_links (c : FieldCmd) (y : Blocks) : (emit c y).links = y.links := rfl
@[simp] theorem emit_reps (c : FieldCmd) (y : Blocks) : (emit c y).reps = y.reps := rfl
@[simp] theorem emit_out (c : FieldCmd) (y : Blocks) : (emit c y).out = y.out ++ [c] := rfl

/-! ### Entries after an update -/

@[simp] theorem setSec_sig (i : Nat) (v : SectionState) (k : Nat) (y : Blocks) : (setSec i v y).sig k = y.sig k := rfl
@[simp] theorem setSec_pt (i : Nat) (v : SectionState) (k : Nat) (y : Blocks) : (setSec i v y).pt k = y.pt k := rfl
@[simp] theorem setSec_inst (i : Nat) (v : SectionState) (k : Nat) (y : Blocks) : (setSec i v y).inst k = y.inst k := rfl
@[simp] theorem setSec_road (i : Nat) (v : SectionState) (k : Nat) (y : Blocks) : (setSec i v y).road k = y.road k := rfl
@[simp] theorem setSec_area (i : Nat) (v : SectionState) (k : Nat) (y : Blocks) : (setSec i v y).area k = y.area k := rfl
@[simp] theorem setSec_link (i : Nat) (v : SectionState) (k : LinkId) (y : Blocks) : (setSec i v y).link k = y.link k := rfl
@[simp] theorem setSec_rep (i : Nat) (v : SectionState) (k : LinkId) (y : Blocks) : (setSec i v y).rep k = y.rep k := rfl

@[simp] theorem setSig_sec (i : Nat) (v : SignalState) (k : Nat) (y : Blocks) : (setSig i v y).sec k = y.sec k := rfl
@[simp] theorem setSig_pt (i : Nat) (v : SignalState) (k : Nat) (y : Blocks) : (setSig i v y).pt k = y.pt k := rfl
@[simp] theorem setSig_inst (i : Nat) (v : SignalState) (k : Nat) (y : Blocks) : (setSig i v y).inst k = y.inst k := rfl
@[simp] theorem setSig_road (i : Nat) (v : SignalState) (k : Nat) (y : Blocks) : (setSig i v y).road k = y.road k := rfl
@[simp] theorem setSig_area (i : Nat) (v : SignalState) (k : Nat) (y : Blocks) : (setSig i v y).area k = y.area k := rfl
@[simp] theorem setSig_link (i : Nat) (v : SignalState) (k : LinkId) (y : Blocks) : (setSig i v y).link k = y.link k := rfl
@[simp] theorem setSig_rep (i : Nat) (v : SignalState) (k : LinkId) (y : Blocks) : (setSig i v y).rep k = y.rep k := rfl

@[simp] theorem setPt_sec (i : Nat) (v : PointState) (k : Nat) (y : Blocks) : (setPt i v y).sec k = y.sec k := rfl
@[simp] theorem setPt_sig (i : Nat) (v : PointState) (k : Nat) (y : Blocks) : (setPt i v y).sig k = y.sig k := rfl
@[simp] theorem setPt_inst (i : Nat) (v : PointState) (k : Nat) (y : Blocks) : (setPt i v y).inst k = y.inst k := rfl
@[simp] theorem setPt_road (i : Nat) (v : PointState) (k : Nat) (y : Blocks) : (setPt i v y).road k = y.road k := rfl
@[simp] theorem setPt_area (i : Nat) (v : PointState) (k : Nat) (y : Blocks) : (setPt i v y).area k = y.area k := rfl
@[simp] theorem setPt_link (i : Nat) (v : PointState) (k : LinkId) (y : Blocks) : (setPt i v y).link k = y.link k := rfl
@[simp] theorem setPt_rep (i : Nat) (v : PointState) (k : LinkId) (y : Blocks) : (setPt i v y).rep k = y.rep k := rfl

@[simp] theorem setInst_sec (i : Nat) (v : Option RouteInst) (k : Nat) (y : Blocks) : (setInst i v y).sec k = y.sec k := rfl
@[simp] theorem setInst_sig (i : Nat) (v : Option RouteInst) (k : Nat) (y : Blocks) : (setInst i v y).sig k = y.sig k := rfl
@[simp] theorem setInst_pt (i : Nat) (v : Option RouteInst) (k : Nat) (y : Blocks) : (setInst i v y).pt k = y.pt k := rfl
@[simp] theorem setInst_road (i : Nat) (v : Option RouteInst) (k : Nat) (y : Blocks) : (setInst i v y).road k = y.road k := rfl
@[simp] theorem setInst_area (i : Nat) (v : Option RouteInst) (k : Nat) (y : Blocks) : (setInst i v y).area k = y.area k := rfl
@[simp] theorem setInst_link (i : Nat) (v : Option RouteInst) (k : LinkId) (y : Blocks) : (setInst i v y).link k = y.link k := rfl
@[simp] theorem setInst_rep (i : Nat) (v : Option RouteInst) (k : LinkId) (y : Blocks) : (setInst i v y).rep k = y.rep k := rfl

@[simp] theorem setRoad_sec (i : Nat) (v : RoadState) (k : Nat) (y : Blocks) : (setRoad i v y).sec k = y.sec k := rfl
@[simp] theorem setRoad_sig (i : Nat) (v : RoadState) (k : Nat) (y : Blocks) : (setRoad i v y).sig k = y.sig k := rfl
@[simp] theorem setRoad_pt (i : Nat) (v : RoadState) (k : Nat) (y : Blocks) : (setRoad i v y).pt k = y.pt k := rfl
@[simp] theorem setRoad_inst (i : Nat) (v : RoadState) (k : Nat) (y : Blocks) : (setRoad i v y).inst k = y.inst k := rfl
@[simp] theorem setRoad_area (i : Nat) (v : RoadState) (k : Nat) (y : Blocks) : (setRoad i v y).area k = y.area k := rfl
@[simp] theorem setRoad_link (i : Nat) (v : RoadState) (k : LinkId) (y : Blocks) : (setRoad i v y).link k = y.link k := rfl
@[simp] theorem setRoad_rep (i : Nat) (v : RoadState) (k : LinkId) (y : Blocks) : (setRoad i v y).rep k = y.rep k := rfl

@[simp] theorem setArea_sec (i : Nat) (v : AreaState) (k : Nat) (y : Blocks) : (setArea i v y).sec k = y.sec k := rfl
@[simp] theorem setArea_sig (i : Nat) (v : AreaState) (k : Nat) (y : Blocks) : (setArea i v y).sig k = y.sig k := rfl
@[simp] theorem setArea_pt (i : Nat) (v : AreaState) (k : Nat) (y : Blocks) : (setArea i v y).pt k = y.pt k := rfl
@[simp] theorem setArea_inst (i : Nat) (v : AreaState) (k : Nat) (y : Blocks) : (setArea i v y).inst k = y.inst k := rfl
@[simp] theorem setArea_road (i : Nat) (v : AreaState) (k : Nat) (y : Blocks) : (setArea i v y).road k = y.road k := rfl
@[simp] theorem setArea_link (i : Nat) (v : AreaState) (k : LinkId) (y : Blocks) : (setArea i v y).link k = y.link k := rfl
@[simp] theorem setArea_rep (i : Nat) (v : AreaState) (k : LinkId) (y : Blocks) : (setArea i v y).rep k = y.rep k := rfl

@[simp] theorem setLink_sec (l : LinkId) (v : LinkUnit) (k : Nat) (y : Blocks) : (setLink l v y).sec k = y.sec k := rfl
@[simp] theorem setLink_sig (l : LinkId) (v : LinkUnit) (k : Nat) (y : Blocks) : (setLink l v y).sig k = y.sig k := rfl
@[simp] theorem setLink_pt (l : LinkId) (v : LinkUnit) (k : Nat) (y : Blocks) : (setLink l v y).pt k = y.pt k := rfl
@[simp] theorem setLink_inst (l : LinkId) (v : LinkUnit) (k : Nat) (y : Blocks) : (setLink l v y).inst k = y.inst k := rfl
@[simp] theorem setLink_road (l : LinkId) (v : LinkUnit) (k : Nat) (y : Blocks) : (setLink l v y).road k = y.road k := rfl
@[simp] theorem setLink_area (l : LinkId) (v : LinkUnit) (k : Nat) (y : Blocks) : (setLink l v y).area k = y.area k := rfl
@[simp] theorem setLink_rep (l : LinkId) (v : LinkUnit) (k : LinkId) (y : Blocks) : (setLink l v y).rep k = y.rep k := rfl

@[simp] theorem setRep_sec (l : LinkId) (v : ReportUnit) (k : Nat) (y : Blocks) : (setRep l v y).sec k = y.sec k := rfl
@[simp] theorem setRep_sig (l : LinkId) (v : ReportUnit) (k : Nat) (y : Blocks) : (setRep l v y).sig k = y.sig k := rfl
@[simp] theorem setRep_pt (l : LinkId) (v : ReportUnit) (k : Nat) (y : Blocks) : (setRep l v y).pt k = y.pt k := rfl
@[simp] theorem setRep_inst (l : LinkId) (v : ReportUnit) (k : Nat) (y : Blocks) : (setRep l v y).inst k = y.inst k := rfl
@[simp] theorem setRep_road (l : LinkId) (v : ReportUnit) (k : Nat) (y : Blocks) : (setRep l v y).road k = y.road k := rfl
@[simp] theorem setRep_area (l : LinkId) (v : ReportUnit) (k : Nat) (y : Blocks) : (setRep l v y).area k = y.area k := rfl
@[simp] theorem setRep_link (l : LinkId) (v : ReportUnit) (k : LinkId) (y : Blocks) : (setRep l v y).link k = y.link k := rfl

@[simp] theorem emit_sec (c : FieldCmd) (k : Nat) (y : Blocks) : (emit c y).sec k = y.sec k := rfl
@[simp] theorem emit_sig (c : FieldCmd) (k : Nat) (y : Blocks) : (emit c y).sig k = y.sig k := rfl
@[simp] theorem emit_pt (c : FieldCmd) (k : Nat) (y : Blocks) : (emit c y).pt k = y.pt k := rfl
@[simp] theorem emit_inst (c : FieldCmd) (k : Nat) (y : Blocks) : (emit c y).inst k = y.inst k := rfl
@[simp] theorem emit_road (c : FieldCmd) (k : Nat) (y : Blocks) : (emit c y).road k = y.road k := rfl
@[simp] theorem emit_area (c : FieldCmd) (k : Nat) (y : Blocks) : (emit c y).area k = y.area k := rfl
@[simp] theorem emit_link (c : FieldCmd) (k : LinkId) (y : Blocks) : (emit c y).link k = y.link k := rfl
@[simp] theorem emit_rep (c : FieldCmd) (k : LinkId) (y : Blocks) : (emit c y).rep k = y.rep k := rfl

@[simp] theorem setSec_sec_same (i : Nat) (v : SectionState) (y : Blocks) (h : i < 96) :
    (setSec i v y).sec i = v := tabGet_tabSet_same _ _ _ _ h
theorem setSec_sec_other (i : Nat) (v : SectionState) (j : Nat) (y : Blocks) (h : i ≠ j) :
    (setSec i v y).sec j = y.sec j := tabGet_tabSet_other _ _ _ _ _ h
theorem setSec_outside (i : Nat) (v : SectionState) (y : Blocks) (h : 96 ≤ i) : setSec i v y = y := by
  simp [setSec, tabSet_outside _ _ _ h]
@[simp] theorem setSig_sig_same (i : Nat) (v : SignalState) (y : Blocks) (h : i < 64) :
    (setSig i v y).sig i = v := tabGet_tabSet_same _ _ _ _ h
theorem setSig_sig_other (i : Nat) (v : SignalState) (j : Nat) (y : Blocks) (h : i ≠ j) :
    (setSig i v y).sig j = y.sig j := tabGet_tabSet_other _ _ _ _ _ h
theorem setSig_outside (i : Nat) (v : SignalState) (y : Blocks) (h : 64 ≤ i) : setSig i v y = y := by
  simp [setSig, tabSet_outside _ _ _ h]
@[simp] theorem setPt_pt_same (i : Nat) (v : PointState) (y : Blocks) (h : i < 48) :
    (setPt i v y).pt i = v := tabGet_tabSet_same _ _ _ _ h
theorem setPt_pt_other (i : Nat) (v : PointState) (j : Nat) (y : Blocks) (h : i ≠ j) :
    (setPt i v y).pt j = y.pt j := tabGet_tabSet_other _ _ _ _ _ h
theorem setPt_outside (i : Nat) (v : PointState) (y : Blocks) (h : 48 ≤ i) : setPt i v y = y := by
  simp [setPt, tabSet_outside _ _ _ h]
@[simp] theorem setInst_inst_same (i : Nat) (v : Option RouteInst) (y : Blocks) (h : i < 24) :
    (setInst i v y).inst i = v := tabGet_tabSet_same _ _ _ _ h
theorem setInst_inst_other (i : Nat) (v : Option RouteInst) (j : Nat) (y : Blocks) (h : i ≠ j) :
    (setInst i v y).inst j = y.inst j := tabGet_tabSet_other _ _ _ _ _ h
theorem setInst_outside (i : Nat) (v : Option RouteInst) (y : Blocks) (h : 24 ≤ i) : setInst i v y = y := by
  simp [setInst, tabSet_outside _ _ _ h]
@[simp] theorem setRoad_road_same (i : Nat) (v : RoadState) (y : Blocks) (h : i < 24) :
    (setRoad i v y).road i = v := tabGet_tabSet_same _ _ _ _ h
theorem setRoad_road_other (i : Nat) (v : RoadState) (j : Nat) (y : Blocks) (h : i ≠ j) :
    (setRoad i v y).road j = y.road j := tabGet_tabSet_other _ _ _ _ _ h
theorem setRoad_outside (i : Nat) (v : RoadState) (y : Blocks) (h : 24 ≤ i) : setRoad i v y = y := by
  simp [setRoad, tabSet_outside _ _ _ h]
@[simp] theorem setArea_area_same (i : Nat) (v : AreaState) (y : Blocks) (h : i < 8) :
    (setArea i v y).area i = v := tabGet_tabSet_same _ _ _ _ h
theorem setArea_area_other (i : Nat) (v : AreaState) (j : Nat) (y : Blocks) (h : i ≠ j) :
    (setArea i v y).area j = y.area j := tabGet_tabSet_other _ _ _ _ _ h
theorem setArea_outside (i : Nat) (v : AreaState) (y : Blocks) (h : 8 ≤ i) : setArea i v y = y := by
  simp [setArea, tabSet_outside _ _ _ h]
@[simp] theorem setLink_link_same (l : LinkId) (v : LinkUnit) (y : Blocks) : (setLink l v y).link l = v :=
  PerLink.get_set_same _ _ _
theorem setLink_link_other (l : LinkId) (v : LinkUnit) (k : LinkId) (y : Blocks) (h : l ≠ k) :
    (setLink l v y).link k = y.link k := PerLink.get_set_other _ _ _ _ h
@[simp] theorem setRep_rep_same (l : LinkId) (v : ReportUnit) (y : Blocks) : (setRep l v y).rep l = v :=
  PerLink.get_set_same _ _ _
theorem setRep_rep_other (l : LinkId) (v : ReportUnit) (k : LinkId) (y : Blocks) (h : l ≠ k) :
    (setRep l v y).rep k = y.rep k := PerLink.get_set_other _ _ _ _ h

/-! ### The machine around its blocks -/

@[simp] theorem onBlocks_desc (op : Desc → Blocks → Blocks) (s : State) : (onBlocks op s).desc = s.desc := rfl
@[simp] theorem onBlocks_pins (op : Desc → Blocks → Blocks) (s : State) : (onBlocks op s).pins = s.pins := rfl
@[simp] theorem onBlocks_pending (op : Desc → Blocks → Blocks) (s : State) :
    (onBlocks op s).pending = s.pending := rfl
@[simp] theorem onBlocks_blk (op : Desc → Blocks → Blocks) (s : State) :
    (onBlocks op s).blk = op s.desc s.blk := rfl
@[simp] theorem finish_desc (s : State) : (finish s).desc = s.desc := rfl
@[simp] theorem finish_pins (s : State) : (finish s).pins = s.pins := rfl
@[simp] theorem finish_pending (s : State) : (finish s).pending = s.pending := rfl
@[simp] theorem finish_blk (s : State) : (finish s).blk = settle s.blk := rfl

end Sys2Proof.Machine
end

