-- ==== Sys2Proof/Laws/Aside.lean ====
section
/-! SUPPORT. The frame of the fleet table, the rotation pointer, the settlement watch and the test scheduler: point, route, road, area and programme operations leave them as they are. -/

namespace Sys2Proof.Machine

/-- The fleet table, the rotation pointer, the settlement watch and the test scheduler, as one value. -/
def Blocks.aside (y : Blocks) := (y.fleet, y.rot, y.settleWatch, y.tst)

theorem foldl_aside {α : Type} (f : Blocks → α → Blocks) (xs : List α)
    (h : ∀ y a, Blocks.aside (f y a) = Blocks.aside y) (y : Blocks) :
    Blocks.aside (xs.foldl f y) = Blocks.aside y := by
  induction xs generalizing y with
  | nil => rfl
  | cons a xs ih => rw [List.foldl_cons, ih, h]

@[simp] theorem update_aside (y : Blocks) (ctl : ModeControl) (secs : Vector SectionState 96) (sigs : Vector SignalState 64) (pts : Vector PointState 48) (queue : List Nat) (slots : Nat) (insts : Vector (Option RouteInst) 24) (wait : List WaitEntry) (roads : Vector RoadState 24) (prog : Programme) (areas : Vector AreaState 8) (links : PerLink LinkUnit) (reps : PerLink ReportUnit) (out : List FieldCmd) :
    Blocks.aside { y with ctl := ctl, secs := secs, sigs := sigs, pts := pts, queue := queue, slots := slots, insts := insts, wait := wait, roads := roads, prog := prog, areas := areas, links := links, reps := reps, out := out } = Blocks.aside y := rfl

@[simp] theorem setSec_aside (i : Nat) (v : SectionState) (y : Blocks) :
    Blocks.aside (setSec i v y) = Blocks.aside y := rfl
@[simp] theorem setSig_aside (i : Nat) (v : SignalState) (y : Blocks) :
    Blocks.aside (setSig i v y) = Blocks.aside y := rfl
@[simp] theorem setPt_aside (i : Nat) (v : PointState) (y : Blocks) :
    Blocks.aside (setPt i v y) = Blocks.aside y := rfl
@[simp] theorem setInst_aside (i : Nat) (v : Option RouteInst) (y : Blocks) :
    Blocks.aside (setInst i v y) = Blocks.aside y := rfl
@[simp] theorem setRoad_aside (i : Nat) (v : RoadState) (y : Blocks) :
    Blocks.aside (setRoad i v y) = Blocks.aside y := rfl
@[simp] theorem setArea_aside (i : Nat) (v : AreaState) (y : Blocks) :
    Blocks.aside (setArea i v y) = Blocks.aside y := rfl
@[simp] theorem setLink_aside (l : LinkId) (v : LinkUnit) (y : Blocks) :
    Blocks.aside (setLink l v y) = Blocks.aside y := rfl
@[simp] theorem setRep_aside (l : LinkId) (v : ReportUnit) (y : Blocks) :
    Blocks.aside (setRep l v y) = Blocks.aside y := rfl
@[simp] theorem emit_aside (c : FieldCmd) (y : Blocks) :
    Blocks.aside (emit c y) = Blocks.aside y := rfl

@[simp] theorem postTo_aside (l : LinkId) (f : Frame) (y : Blocks) :
    Blocks.aside (postTo l f y) = Blocks.aside y := by
  unfold postTo; (repeat' split) <;> simp

@[simp] theorem postAlso_aside (c : ReportClass) (extra : Option LinkId) (body : List Byte) (y : Blocks) :
    Blocks.aside (postAlso c extra body y) = Blocks.aside y := by
  unfold postAlso; (repeat' split) <;> simp [foldl_aside]

@[simp] theorem post_aside (c : ReportClass) (body : List Byte) (y : Blocks) :
    Blocks.aside (post c body y) = Blocks.aside y := by
  simp [post]

@[simp] theorem alarm_aside (code : Nat) (fields : List Byte) (y : Blocks) :
    Blocks.aside (alarm code fields y) = Blocks.aside y := by
  simp [alarm]

@[simp] theorem postModeAll_aside (old new : Mode) (y : Blocks) :
    Blocks.aside (postModeAll old new y) = Blocks.aside y := by
  unfold postModeAll; (repeat' split) <;> simp [foldl_aside]

@[simp] theorem judgeOffer_aside (d : Desc) (y : Blocks) :
    Blocks.aside (judgeOffer d y) = Blocks.aside y := by
  unfold judgeOffer; (repeat' split) <;> simp

@[simp] theorem setEntry_aside (i : Nat) (e : ProgEntry) (y : Blocks) :
    Blocks.aside (setEntry i e y) = Blocks.aside y := by
  simp [setEntry]

@[simp] theorem moveEntry_aside (i : Nat) (new : EntryState) (slot : Option Nat) (o : Option Outcome) (y : Blocks) :
    Blocks.aside (moveEntry i new slot o y) = Blocks.aside y := by
  unfold moveEntry; (repeat' split) <;> simp

@[simp] theorem autoDepart_aside (y : Blocks) :
    Blocks.aside (autoDepart y) = Blocks.aside y := by
  unfold autoDepart
  split
  · apply foldl_aside
    intro y i
    (repeat' split) <;> simp
  · rfl

@[simp] theorem releaseEvent_aside (d : Desc) (y : Blocks) :
    Blocks.aside (releaseEvent d y) = Blocks.aside y := by
  simp [releaseEvent]

@[simp] theorem roadNotice_aside (d : Desc) (n : RoadNotice) (road tram : Nat) (y : Blocks) :
    Blocks.aside (roadNotice d n road tram y) = Blocks.aside y := by
  unfold roadNotice; (repeat' split) <;> simp

@[simp] theorem endedNotice_aside (d : Desc) (movement : Nat) (m : Manner) (y : Blocks) :
    Blocks.aside (endedNotice d movement m y) = Blocks.aside y := by
  unfold endedNotice; (repeat' split) <;> simp

@[simp] theorem areaReport_aside (cause a : Nat) (old new : AreaStatus) (key : Nat) (y : Blocks) :
    Blocks.aside (areaReport cause a old new key y) = Blocks.aside y := by
  simp [areaReport]

@[simp] theorem grantArea_aside (d : Desc) (a : Nat) (y : Blocks) :
    Blocks.aside (grantArea d a y) = Blocks.aside y := by
  simp [grantArea]

@[simp] theorem judgeArea_aside (d : Desc) (a : Nat) (y : Blocks) :
    Blocks.aside (judgeArea d a y) = Blocks.aside y := by
  unfold judgeArea; (repeat' split) <;> simp

@[simp] theorem alarmUnlisted_aside (d : Desc) (road tram : Nat) (y : Blocks) :
    Blocks.aside (alarmUnlisted d road tram y) = Blocks.aside y := by
  unfold alarmUnlisted; (repeat' split) <;> simp

@[simp] theorem roadReport_aside (d : Desc) (cause i : Nat) (extra : List Byte) (y : Blocks) :
    Blocks.aside (roadReport d cause i extra y) = Blocks.aside y := by
  simp [roadReport]

@[simp] theorem alarmDisagree_aside (d : Desc) (i cause : Nat) (tram : Option Nat) (y : Blocks) :
    Blocks.aside (alarmDisagree d i cause tram y) = Blocks.aside y := by
  simp [alarmDisagree]

@[simp] theorem judgeIdle_aside (d : Desc) (i : Nat) (y : Blocks) :
    Blocks.aside (judgeIdle d i y) = Blocks.aside y := by
  unfold judgeIdle; dsimp only; (repeat' split) <;> simp

@[simp] theorem enterIdle_aside (d : Desc) (i : Nat) (y : Blocks) :
    Blocks.aside (enterIdle d i y) = Blocks.aside y := by
  simp [enterIdle]

@[simp] theorem completeArrival_aside (d : Desc) (i : Nat) (y : Blocks) :
    Blocks.aside (completeArrival d i y) = Blocks.aside y := by
  simp [completeArrival]

@[simp] theorem judgeRoad_aside (d : Desc) (i : Nat) (y : Blocks) :
    Blocks.aside (judgeRoad d i y) = Blocks.aside y := by
  unfold judgeRoad; (repeat' split) <;> simp

@[simp] theorem roadTakesChange_aside (d : Desc) (s : Nat) (y : Blocks) :
    Blocks.aside (roadTakesChange d s y) = Blocks.aside y := by
  unfold roadTakesChange; (repeat' split) <;> simp

@[simp] theorem reserveOrigin_aside (d : Desc) (i : Nat) (y : Blocks) :
    Blocks.aside (reserveOrigin d i y) = Blocks.aside y := by
  simp [reserveOrigin]

@[simp] theorem reserveDest_aside (d : Desc) (i tram : Nat) (y : Blocks) :
    Blocks.aside (reserveDest d i tram y) = Blocks.aside y := by
  simp [reserveDest]

@[simp] theorem mouthPassed_aside (d : Desc) (dir : Direction) (i : Nat) (y : Blocks) :
    Blocks.aside (mouthPassed d dir i y) = Blocks.aside y := by
  unfold mouthPassed; dsimp only; (repeat' split) <;> simp

@[simp] theorem givenUp_aside (d : Desc) (dir : Direction) (i : Nat) (y : Blocks) :
    Blocks.aside (givenUp d dir i y) = Blocks.aside y := by
  unfold givenUp; dsimp only; (repeat' split) <;> simp

@[simp] theorem holdExpiry_aside (d : Desc) (i : Nat) (y : Blocks) :
    Blocks.aside (holdExpiry d i y) = Blocks.aside y := by
  unfold holdExpiry; dsimp only; (repeat' split) <;> simp

@[simp] theorem arriveExpiry_aside (d : Desc) (i : Nat) (y : Blocks) :
    Blocks.aside (arriveExpiry d i y) = Blocks.aside y := by
  unfold arriveExpiry; dsimp only; (repeat' split) <;> simp

@[simp] theorem sectionReport_aside (cause i : Nat) (old : Occupancy) (y : Blocks) :
    Blocks.aside (sectionReport cause i old y) = Blocks.aside y := by
  simp [sectionReport]

@[simp] theorem lockSection_aside (slot i : Nat) (y : Blocks) :
    Blocks.aside (lockSection slot i y) = Blocks.aside y := by
  simp [lockSection]

@[simp] theorem unlockSection_aside (i : Nat) (y : Blocks) :
    Blocks.aside (unlockSection i y) = Blocks.aside y := by
  simp [unlockSection]

@[simp] theorem markOccupied_aside (i : Nat) (y : Blocks) :
    Blocks.aside (markOccupied i y) = Blocks.aside y := by
  simp [markOccupied]

@[simp] theorem markFault_aside (i : Nat) (y : Blocks) :
    Blocks.aside (markFault i y) = Blocks.aside y := by
  unfold markFault; (repeat' split) <;> simp

@[simp] theorem setAspect_aside (d : Desc) (a : Aspect) (g : Nat) (y : Blocks) :
    Blocks.aside (setAspect d a g y) = Blocks.aside y := by
  unfold setAspect; (repeat' split) <;> simp

@[simp] theorem ownSignal_aside (slot g : Nat) (y : Blocks) :
    Blocks.aside (ownSignal slot g y) = Blocks.aside y := by
  simp [ownSignal]

@[simp] theorem disownSignal_aside (d : Desc) (g : Nat) (y : Blocks) :
    Blocks.aside (disownSignal d g y) = Blocks.aside y := by
  simp [disownSignal]

@[simp] theorem stateReport_aside (d : Desc) (slot : Nat) (old : InstState) (v : RouteInst) (y : Blocks) :
    Blocks.aside (stateReport d slot old v y) = Blocks.aside y := by
  simp [stateReport]

@[simp] theorem changeInst_aside (d : Desc) (slot : Nat) (old v : RouteInst) (y : Blocks) :
    Blocks.aside (changeInst d slot old v y) = Blocks.aside y := by
  simp [changeInst]

@[simp] theorem judgeOpen_aside (d : Desc) (slot : Nat) (y : Blocks) :
    Blocks.aside (judgeOpen d slot y) = Blocks.aside y := by
  unfold judgeOpen; (repeat' split) <;> simp

@[simp] theorem stall_aside (d : Desc) (slot : Nat) (v : RouteInst) (c : StallCause) (y : Blocks) :
    Blocks.aside (stall d slot v c y) = Blocks.aside y := by
  unfold stall; (repeat' split) <;> simp

@[simp] theorem troubleAt_aside (d : Desc) (p : Nat) (c : StallCause) (slot : Nat) (y : Blocks) :
    Blocks.aside (troubleAt d p c slot y) = Blocks.aside y := by
  unfold troubleAt; (repeat' split) <;> simp

@[simp] theorem trouble_aside (d : Desc) (p : Nat) (c : StallCause) (y : Blocks) :
    Blocks.aside (trouble d p c y) = Blocks.aside y := by
  unfold trouble; (repeat' split) <;> simp [foldl_aside]

@[simp] theorem detectionAt_aside (d : Desc) (p : Nat) (old new : Detection) (slot : Nat) (y : Blocks) :
    Blocks.aside (detectionAt d p old new slot y) = Blocks.aside y := by
  unfold detectionAt; (repeat' split) <;> simp

@[simp] theorem instDetection_aside (d : Desc) (p : Nat) (old new : Detection) (y : Blocks) :
    Blocks.aside (instDetection d p old new y) = Blocks.aside y := by
  unfold instDetection; (repeat' split) <;> simp [foldl_aside]

@[simp] theorem endingAt_aside (d : Desc) (p : Nat) (slot : Nat) (y : Blocks) :
    Blocks.aside (endingAt d p slot y) = Blocks.aside y := by
  unfold endingAt; (repeat' split) <;> simp

@[simp] theorem instEnding_aside (d : Desc) (p : Nat) (y : Blocks) :
    Blocks.aside (instEnding d p y) = Blocks.aside y := by
  unfold instEnding; (repeat' split) <;> simp [foldl_aside]

@[simp] theorem modPt_aside (i : Nat) (f : PointState → PointState) (y : Blocks) :
    Blocks.aside (modPt i f y) = Blocks.aside y := by
  simp [modPt]

@[simp] theorem pointReport_aside (cause i : Nat) (y : Blocks) :
    Blocks.aside (pointReport cause i y) = Blocks.aside y := by
  simp [pointReport]

@[simp] theorem judgeMismatch_aside (d : Desc) (i : Nat) (y : Blocks) :
    Blocks.aside (judgeMismatch d i y) = Blocks.aside y := by
  unfold judgeMismatch; dsimp only; (repeat' split) <;> simp

@[simp] theorem present_aside (d : Desc) (i : Nat) (v : Detection) (y : Blocks) :
    Blocks.aside (present d i v y) = Blocks.aside y := by
  unfold present; dsimp only; (repeat' split) <;> simp

@[simp] theorem recompute_aside (d : Desc) (i : Nat) (y : Blocks) :
    Blocks.aside (recompute d i y) = Blocks.aside y := by
  unfold recompute; dsimp only; (repeat' split) <;> simp

@[simp] theorem driveEnding_aside (d : Desc) (i : Nat) (e : Ending) (tests : Bool) (y : Blocks) :
    Blocks.aside (driveEnding d i e tests y) = Blocks.aside y := by
  unfold driveEnding; (repeat' split) <;> simp

@[simp] theorem setOutput_aside (d : Desc) (i : Nat) (x : Option Position) (y : Blocks) :
    Blocks.aside (setOutput d i x y) = Blocks.aside y := by
  unfold setOutput; (repeat' split) <;> simp

@[simp] theorem outputOff_aside (d : Desc) (i : Nat) (y : Blocks) :
    Blocks.aside (outputOff d i y) = Blocks.aside y := by
  unfold outputOff; (repeat' split) <;> simp

@[simp] theorem freeSlot_aside (y : Blocks) :
    Blocks.aside (freeSlot y) = Blocks.aside y := by
  simp [freeSlot]

@[simp] theorem leaveDrive_aside (i : Nat) (y : Blocks) :
    Blocks.aside (leaveDrive i y) = Blocks.aside y := by
  unfold leaveDrive; (repeat' split) <;> simp

@[simp] theorem settleDrive_aside (i : Nat) (st : DriveState) (y : Blocks) :
    Blocks.aside (settleDrive i st y) = Blocks.aside y := by
  simp [settleDrive]

@[simp] theorem completeDrive_aside (d : Desc) (i : Nat) (y : Blocks) :
    Blocks.aside (completeDrive d i y) = Blocks.aside y := by
  simp [completeDrive]

@[simp] theorem withdrawDrive_aside (d : Desc) (i : Nat) (y : Blocks) :
    Blocks.aside (withdrawDrive d i y) = Blocks.aside y := by
  simp [withdrawDrive]

@[simp] theorem failLearning_aside (d : Desc) (i : Nat) (why : LearnFault) (y : Blocks) :
    Blocks.aside (failLearning d i why y) = Blocks.aside y := by
  simp [failLearning]

@[simp] theorem succeedLearning_aside (d : Desc) (i : Nat) (m : Nat) (y : Blocks) :
    Blocks.aside (succeedLearning d i m y) = Blocks.aside y := by
  simp [succeedLearning]

@[simp] theorem judgeLearning_aside (d : Desc) (i : Nat) (y : Blocks) :
    Blocks.aside (judgeLearning d i y) = Blocks.aside y := by
  unfold judgeLearning; (repeat' split) <;> simp

@[simp] theorem startLearning_aside (d : Desc) (i : Nat) (y : Blocks) :
    Blocks.aside (startLearning d i y) = Blocks.aside y := by
  unfold startLearning; dsimp only; (repeat' split) <;> simp

@[simp] theorem grantTo_aside (d : Desc) (i : Nat) (y : Blocks) :
    Blocks.aside (grantTo d i y) = Blocks.aside y := by
  unfold grantTo; dsimp only; (repeat' split) <;> simp

@[simp] theorem grantLoop_aside (d : Desc) (n : Nat) (y : Blocks) :
    Blocks.aside (grantLoop d n y) = Blocks.aside y := by
  induction n generalizing y with
  | zero => rfl
  | succ n ih => unfold grantLoop; (repeat' split) <;> simp [ih]

@[simp] theorem grantSlots_aside (d : Desc) (y : Blocks) :
    Blocks.aside (grantSlots d y) = Blocks.aside y := by
  simp [grantSlots]

@[simp] theorem reverseDrive_aside (d : Desc) (i : Nat) (x : Position) (y : Blocks) :
    Blocks.aside (reverseDrive d i x y) = Blocks.aside y := by
  unfold reverseDrive; (repeat' split) <;> simp

@[simp] theorem commandDone_aside (i : Nat) (y : Blocks) :
    Blocks.aside (commandDone i y) = Blocks.aside y := by
  simp [commandDone]

@[simp] theorem driveCommand_aside (d : Desc) (i : Nat) (x : Position) (y : Blocks) :
    Blocks.aside (driveCommand d i x y) = Blocks.aside y := by
  unfold driveCommand; dsimp only; (repeat' split) <;> simp

@[simp] theorem checkComplete_aside (d : Desc) (i : Nat) (y : Blocks) :
    Blocks.aside (checkComplete d i y) = Blocks.aside y := by
  unfold checkComplete; dsimp only; (repeat' split) <;> simp

@[simp] theorem retarget_aside (d : Desc) (i : Nat) (x : Position) (y : Blocks) :
    Blocks.aside (retarget d i x y) = Blocks.aside y := by
  unfold retarget; dsimp only; (repeat' split) <;> simp

@[simp] theorem routeLock_aside (d : Desc) (slot i : Nat) (x : Position) (y : Blocks) :
    Blocks.aside (routeLock d slot i x y) = Blocks.aside y := by
  simp [routeLock]

@[simp] theorem flankHold_aside (d : Desc) (i : Nat) (x : Position) (y : Blocks) :
    Blocks.aside (flankHold d i x y) = Blocks.aside y := by
  simp [flankHold]

@[simp] theorem routeUnlock_aside (i : Nat) (y : Blocks) :
    Blocks.aside (routeUnlock i y) = Blocks.aside y := by
  simp [routeUnlock]

@[simp] theorem flankRelease_aside (i : Nat) (y : Blocks) :
    Blocks.aside (flankRelease i y) = Blocks.aside y := by
  simp [flankRelease]

@[simp] theorem withdrawInstruction_aside (d : Desc) (i : Nat) (y : Blocks) :
    Blocks.aside (withdrawInstruction d i y) = Blocks.aside y := by
  unfold withdrawInstruction; dsimp only; (repeat' split) <;> simp

@[simp] theorem watchUnbidden_aside (d : Desc) (i : Nat) (y : Blocks) :
    Blocks.aside (watchUnbidden d i y) = Blocks.aside y := by
  unfold watchUnbidden; dsimp only; (repeat' split) <;> simp

@[simp] theorem takeCount_aside (d : Desc) (i : Nat) (y : Blocks) :
    Blocks.aside (takeCount d i y) = Blocks.aside y := by
  unfold takeCount; dsimp only; (repeat' split) <;> simp

@[simp] theorem phaseFault_aside (d : Desc) (i : Nat) (y : Blocks) :
    Blocks.aside (phaseFault d i y) = Blocks.aside y := by
  unfold phaseFault; dsimp only; (repeat' split) <;> simp

@[simp] theorem takePhase_aside (d : Desc) (i : Nat) (a b : Bool) (y : Blocks) :
    Blocks.aside (takePhase d i a b y) = Blocks.aside y := by
  unfold takePhase; dsimp only; (repeat' split) <;> simp

@[simp] theorem learnContact_aside (d : Desc) (i : Nat) (n r : Bool) (y : Blocks) :
    Blocks.aside (learnContact d i n r y) = Blocks.aside y := by
  unfold learnContact; dsimp only; (repeat' split) <;> simp

@[simp] theorem takeContacts_aside (d : Desc) (i : Nat) (n r : Bool) (y : Blocks) :
    Blocks.aside (takeContacts d i n r y) = Blocks.aside y := by
  unfold takeContacts; dsimp only; (repeat' split) <;> simp

@[simp] theorem occupyPoint_aside (d : Desc) (i : Nat) (y : Blocks) :
    Blocks.aside (occupyPoint d i y) = Blocks.aside y := by
  unfold occupyPoint; dsimp only; (repeat' split) <;> simp

@[simp] theorem pointsTakeChange_aside (d : Desc) (s : Nat) (old new : Occupancy) (y : Blocks) :
    Blocks.aside (pointsTakeChange d s old new y) = Blocks.aside y := by
  unfold pointsTakeChange; dsimp only; (repeat' split) <;> simp [foldl_aside]

@[simp] theorem strokeExpiry_aside (d : Desc) (i : Nat) (y : Blocks) :
    Blocks.aside (strokeExpiry d i y) = Blocks.aside y := by
  unfold strokeExpiry; dsimp only; (repeat' split) <;> simp

@[simp] theorem startReturn_aside (d : Desc) (i : Nat) (y : Blocks) :
    Blocks.aside (startReturn d i y) = Blocks.aside y := by
  unfold startReturn; dsimp only; (repeat' split) <;> simp

@[simp] theorem restExpiry_aside (d : Desc) (i : Nat) (y : Blocks) :
    Blocks.aside (restExpiry d i y) = Blocks.aside y := by
  unfold restExpiry; dsimp only; (repeat' split) <;> simp

@[simp] theorem settleExpiry_aside (d : Desc) (i : Nat) (y : Blocks) :
    Blocks.aside (settleExpiry d i y) = Blocks.aside y := by
  unfold settleExpiry; (repeat' split) <;> simp

@[simp] theorem learnExpiry_aside (d : Desc) (i : Nat) (y : Blocks) :
    Blocks.aside (learnExpiry d i y) = Blocks.aside y := by
  unfold learnExpiry; dsimp only; (repeat' split) <;> simp

@[simp] theorem releaseLocks_aside (d : Desc) (v : RouteInst) (i s : Nat) (y : Blocks) :
    Blocks.aside (releaseLocks d v i s y) = Blocks.aside y := by
  unfold releaseLocks; (repeat' split) <;> simp [foldl_aside]

@[simp] theorem releasedReport_aside (slot : Nat) (v : RouteInst) (m : Manner) (y : Blocks) :
    Blocks.aside (releasedReport slot v m y) = Blocks.aside y := by
  simp [releasedReport]

@[simp] theorem noticeEnded_aside (d : Desc) (v : RouteInst) (m : Manner) (y : Blocks) :
    Blocks.aside (noticeEnded d v m y) = Blocks.aside y := by
  unfold noticeEnded; (repeat' split) <;> simp

@[simp] theorem freeSequential_aside (d : Desc) (slot : Nat) (v : RouteInst) (y : Blocks) :
    Blocks.aside (freeSequential d slot v y) = Blocks.aside y := by
  simp [freeSequential]

@[simp] theorem releaseLowest_aside (d : Desc) (slot : Nat) (v : RouteInst) (s : Nat) (y : Blocks) :
    Blocks.aside (releaseLowest d slot v s y) = Blocks.aside y := by
  unfold releaseLowest; dsimp only; (repeat' split) <;> simp

@[simp] theorem sectionClears_aside (d : Desc) (slot : Nat) (v : RouteInst) (s : Nat) (y : Blocks) :
    Blocks.aside (sectionClears d slot v s y) = Blocks.aside y := by
  unfold sectionClears; (repeat' split) <;> simp

@[simp] theorem wholeNotice_aside (d : Desc) (passed : Bool) (v : RouteInst) (y : Blocks) :
    Blocks.aside (wholeNotice d passed v y) = Blocks.aside y := by
  unfold wholeNotice; (repeat' split) <;> simp

@[simp] theorem releaseWhole_aside (d : Desc) (slot : Nat) (v : RouteInst) (m : Manner) (y : Blocks) :
    Blocks.aside (releaseWhole d slot v m y) = Blocks.aside y := by
  unfold releaseWhole; (repeat' split) <;> simp [foldl_aside]

@[simp] theorem alarmEntry_aside (d : Desc) (slot : Nat) (v : RouteInst) (s : Nat) (y : Blocks) :
    Blocks.aside (alarmEntry d slot v s y) = Blocks.aside y := by
  simp [alarmEntry]

@[simp] theorem alarmIntrusion_aside (slot s : Nat) (y : Blocks) :
    Blocks.aside (alarmIntrusion slot s y) = Blocks.aside y := by
  simp [alarmIntrusion]

@[simp] theorem alarmFault_aside (d : Desc) (slot : Nat) (v : RouteInst) (s : Nat) (y : Blocks) :
    Blocks.aside (alarmFault d slot v s y) = Blocks.aside y := by
  unfold alarmFault; (repeat' split) <;> simp

@[simp] theorem changeAlarm_aside (d : Desc) (slot : Nat) (v : RouteInst) (s : Nat) (new : Occupancy) (y : Blocks) :
    Blocks.aside (changeAlarm d slot v s new y) = Blocks.aside y := by
  unfold changeAlarm; dsimp only; (repeat' split) <;> simp

@[simp] theorem instsAlarm_aside (d : Desc) (s : Nat) (new : Occupancy) (y : Blocks) :
    Blocks.aside (instsAlarm d s new y) = Blocks.aside y := by
  unfold instsAlarm; (repeat' split) <;> simp

@[simp] theorem entryAtStop_aside (d : Desc) (slot : Nat) (v : RouteInst) (s : Nat) (y : Blocks) :
    Blocks.aside (entryAtStop d slot v s y) = Blocks.aside y := by
  simp [entryAtStop]

@[simp] theorem takeSectionChange_aside (d : Desc) (slot : Nat) (v : RouteInst) (s : Nat) (new : Occupancy) (y : Blocks) :
    Blocks.aside (takeSectionChange d slot v s new y) = Blocks.aside y := by
  unfold takeSectionChange; dsimp only; (repeat' split) <;> simp

@[simp] theorem instsTakeChange_aside (d : Desc) (s : Nat) (new : Occupancy) (y : Blocks) :
    Blocks.aside (instsTakeChange d s new y) = Blocks.aside y := by
  unfold instsTakeChange; (repeat' split) <;> simp

@[simp] theorem enterCancelling_aside (d : Desc) (slot : Nat) (v : RouteInst) (y : Blocks) :
    Blocks.aside (enterCancelling d slot v y) = Blocks.aside y := by
  unfold enterCancelling; (repeat' split) <;> simp

@[simp] theorem cancelInst_aside (d : Desc) (slot : Nat) (v : RouteInst) (y : Blocks) :
    Blocks.aside ((cancelInst d slot v y).2) = Blocks.aside y := by
  unfold cancelInst; (repeat' split) <;> simp

@[simp] theorem retryInst_aside (d : Desc) (slot : Nat) (v : RouteInst) (y : Blocks) :
    Blocks.aside ((retryInst d slot v y).2) = Blocks.aside y := by
  unfold retryInst; dsimp only; (repeat' split) <;> simp [foldl_aside]

@[simp] theorem handReleaseInst_aside (d : Desc) (slot : Nat) (v : RouteInst) (y : Blocks) :
    Blocks.aside ((handReleaseInst d slot v y).2) = Blocks.aside y := by
  unfold handReleaseInst; (repeat' split) <;> simp

@[simp] theorem approachExpiry_aside (d : Desc) (slot : Nat) (y : Blocks) :
    Blocks.aside (approachExpiry d slot y) = Blocks.aside y := by
  unfold approachExpiry; (repeat' split) <;> simp

@[simp] theorem handReleaseExpiry_aside (d : Desc) (slot : Nat) (y : Blocks) :
    Blocks.aside (handReleaseExpiry d slot y) = Blocks.aside y := by
  unfold handReleaseExpiry; (repeat' split) <;> simp

@[simp] theorem claimPoint_aside (d : Desc) (slot : Nat) (y : Blocks) (c : Nat × Position) :
    Blocks.aside (claimPoint d slot y c) = Blocks.aside y := by
  unfold claimPoint; dsimp only; (repeat' split) <;> simp

@[simp] theorem claimFlank_aside (d : Desc) (y : Blocks) (c : Nat × Position × Nat) :
    Blocks.aside (claimFlank d y c) = Blocks.aside y := by
  unfold claimFlank; dsimp only; (repeat' split) <;> simp

@[simp] theorem claim_aside (d : Desc) (q : WalkRequest) (l : LinkId) (short : Option (Nat × Nat)) (slot cause : Nat) (extra : Option LinkId) (y : Blocks) :
    Blocks.aside (claim d q l short slot cause extra y) = Blocks.aside y := by
  unfold claim; dsimp only; (repeat' split) <;> simp [foldl_aside]

@[simp] theorem joinWaiting_aside (d : Desc) (q : WalkRequest) (l : LinkId) (tried : Bool) (y : Blocks) :
    Blocks.aside ((joinWaiting d q l tried y).2) = Blocks.aside y := by
  unfold joinWaiting; (repeat' split) <;> simp

@[simp] theorem dropWaiting_aside (definition : Nat) (y : Blocks) :
    Blocks.aside (dropWaiting definition y) = Blocks.aside y := by
  simp [dropWaiting]

@[simp] theorem waitReport_aside (cause : Nat) (e : WaitEntry) (last : List Byte) (y : Blocks) :
    Blocks.aside (waitReport cause e last y) = Blocks.aside y := by
  simp [waitReport]

@[simp] theorem markTried_aside (definition : Nat) (y : Blocks) :
    Blocks.aside (markTried definition y) = Blocks.aside y := by
  simp [markTried]

@[simp] theorem walkWaiting_aside (d : Desc) (y : Blocks) :
    Blocks.aside (walkWaiting d y) = Blocks.aside y := by
  unfold walkWaiting; (repeat' split) <;> simp

@[simp] theorem retryEntry_aside (i : Nat) (y : Blocks) :
    Blocks.aside (retryEntry i y) = Blocks.aside y := by
  unfold retryEntry; (repeat' split) <;> simp

@[simp] theorem walkProgramme_aside (d : Desc) (y : Blocks) :
    Blocks.aside (walkProgramme d y) = Blocks.aside y := by
  unfold walkProgramme; (repeat' split) <;> simp

@[simp] theorem lifeExpiry_aside (definition : Nat) (y : Blocks) :
    Blocks.aside (lifeExpiry definition y) = Blocks.aside y := by
  unfold lifeExpiry; (repeat' split) <;> simp

@[simp] theorem blockNow_aside (i : Nat) (y : Blocks) :
    Blocks.aside (blockNow i y) = Blocks.aside y := by
  unfold blockNow; (repeat' split) <;> simp

@[simp] theorem unblockNow_aside (d : Desc) (i : Nat) (y : Blocks) :
    Blocks.aside (unblockNow d i y) = Blocks.aside y := by
  unfold unblockNow; (repeat' split) <;> simp

@[simp] theorem learnNow_aside (d : Desc) (i : Nat) (y : Blocks) :
    Blocks.aside (learnNow d i y) = Blocks.aside y := by
  simp [learnNow]

@[simp] theorem possessNow_aside (d : Desc) (a key : Nat) (y : Blocks) :
    Blocks.aside (possessNow d a key y) = Blocks.aside y := by
  unfold possessNow; dsimp only; (repeat' split) <;> simp

@[simp] theorem freeArea_aside (d : Desc) (a : Nat) (y : Blocks) :
    Blocks.aside (freeArea d a y) = Blocks.aside y := by
  simp [freeArea]

@[simp] theorem callEntry_aside (d : Desc) (i : Nat) (y : Blocks) :
    Blocks.aside (callEntry d i y) = Blocks.aside y := by
  unfold callEntry; (repeat' split) <;> simp

@[simp] theorem holdNow_aside (y : Blocks) :
    Blocks.aside (holdNow y) = Blocks.aside y := by
  unfold holdNow; (repeat' split) <;> simp

@[simp] theorem resumeNow_aside (d : Desc) (y : Blocks) :
    Blocks.aside (resumeNow d y) = Blocks.aside y := by
  unfold resumeNow; (repeat' split) <;> simp

@[simp] theorem broadcastHold_aside (_d : Desc) (y : Blocks) :
    Blocks.aside (broadcastHold _d y) = Blocks.aside y := by
  unfold broadcastHold; (repeat' split) <;> simp

@[simp] theorem judgeProgramme_aside (d : Desc) (y : Blocks) :
    Blocks.aside (judgeProgramme d y) = Blocks.aside y := by
  simp only [judgeProgramme]; (repeat' split) <;> simp

@[simp] theorem loadNow_aside (d : Desc) (items : List ProgItem) (y : Blocks) :
    Blocks.aside (loadNow d items y) = Blocks.aside y := by
  simp [loadNow]

@[simp] theorem appendNow_aside (d : Desc) (items : List ProgItem) (y : Blocks) :
    Blocks.aside (appendNow d items y) = Blocks.aside y := by
  simp [appendNow]

@[simp] theorem setClock_aside (d : Desc) (minute : Nat) (y : Blocks) :
    Blocks.aside (setClock d minute y) = Blocks.aside y := by
  simp [setClock]

@[simp] theorem broadcastTime_aside (minute : Half) (d : Desc) (y : Blocks) :
    Blocks.aside (broadcastTime minute d y) = Blocks.aside y := by
  unfold broadcastTime; (repeat' split) <;> simp

@[simp] theorem minuteExpiry_aside (d : Desc) (y : Blocks) :
    Blocks.aside (minuteExpiry d y) = Blocks.aside y := by
  unfold minuteExpiry; (repeat' split) <;> simp

end Sys2Proof.Machine
end

