-- ==== Sys2Proof/Laws/Faces.lean ====
section
/-! SUPPORT. The frame of what the field port and the clear timer show of a section: locks, marks,
releases, points, roads, programme and areas leave it as it is. -/

namespace Sys2Proof.Machine
/-- What the field port and the clear timer show of a section: occupancy, level, health, clear timer. -/
def SectionState.face (v : SectionState) := (v.occ, v.level, v.healthy, v.timer)

/-- The faces of the sections. -/
def Blocks.faces (y : Blocks) : Nat → Occupancy × Level × Bool × Timer := fun i => (y.sec i).face

theorem setSec_faces (i : Nat) (v : SectionState) (y : Blocks) (h : v.face = (y.sec i).face) :
    Blocks.faces (setSec i v y) = Blocks.faces y := by
  funext j
  by_cases hj : i = j
  · subst hj
    by_cases hi : i < 96
    · simp [Blocks.faces, hi, h]
    · rw [setSec_outside i v y (by omega)]
  · simp [Blocks.faces, setSec_sec_other i v j y hj]


theorem foldl_faces {α : Type} (f : Blocks → α → Blocks) (xs : List α)
    (h : ∀ y a, Blocks.faces (f y a) = Blocks.faces y) (y : Blocks) :
    Blocks.faces (xs.foldl f y) = Blocks.faces y := by
  induction xs generalizing y with
  | nil => rfl
  | cons a xs ih => rw [List.foldl_cons, ih, h]

@[simp] theorem update_faces (y : Blocks) (ctl : ModeControl) (settleWatch : Bool) (sigs : Vector SignalState 64) (pts : Vector PointState 48) (queue : List Nat) (slots : Nat) (tst : TestState) (rot : Turn) (insts : Vector (Option RouteInst) 24) (wait : List WaitEntry) (roads : Vector RoadState 24) (fleet : List FleetEntry) (prog : Programme) (areas : Vector AreaState 8) (links : PerLink LinkUnit) (reps : PerLink ReportUnit) (out : List FieldCmd) :
    Blocks.faces { y with ctl := ctl, settleWatch := settleWatch, sigs := sigs, pts := pts, queue := queue, slots := slots, tst := tst, rot := rot, insts := insts, wait := wait, roads := roads, fleet := fleet, prog := prog, areas := areas, links := links, reps := reps, out := out } = Blocks.faces y := rfl

@[simp] theorem setSig_faces (i : Nat) (v : SignalState) (y : Blocks) :
    Blocks.faces (setSig i v y) = Blocks.faces y := rfl
@[simp] theorem setPt_faces (i : Nat) (v : PointState) (y : Blocks) :
    Blocks.faces (setPt i v y) = Blocks.faces y := rfl
@[simp] theorem setInst_faces (i : Nat) (v : Option RouteInst) (y : Blocks) :
    Blocks.faces (setInst i v y) = Blocks.faces y := rfl
@[simp] theorem setRoad_faces (i : Nat) (v : RoadState) (y : Blocks) :
    Blocks.faces (setRoad i v y) = Blocks.faces y := rfl
@[simp] theorem setArea_faces (i : Nat) (v : AreaState) (y : Blocks) :
    Blocks.faces (setArea i v y) = Blocks.faces y := rfl
@[simp] theorem setLink_faces (l : LinkId) (v : LinkUnit) (y : Blocks) :
    Blocks.faces (setLink l v y) = Blocks.faces y := rfl
@[simp] theorem setRep_faces (l : LinkId) (v : ReportUnit) (y : Blocks) :
    Blocks.faces (setRep l v y) = Blocks.faces y := rfl
@[simp] theorem emit_faces (c : FieldCmd) (y : Blocks) :
    Blocks.faces (emit c y) = Blocks.faces y := rfl

@[simp] theorem postTo_faces (l : LinkId) (f : Frame) (y : Blocks) :
    Blocks.faces (postTo l f y) = Blocks.faces y := by
  unfold postTo; (repeat' split) <;> simp

@[simp] theorem postAlso_faces (c : ReportClass) (extra : Option LinkId) (body : List Byte) (y : Blocks) :
    Blocks.faces (postAlso c extra body y) = Blocks.faces y := by
  unfold postAlso; (repeat' split) <;> simp [foldl_faces]

@[simp] theorem post_faces (c : ReportClass) (body : List Byte) (y : Blocks) :
    Blocks.faces (post c body y) = Blocks.faces y := by
  simp [post]

@[simp] theorem alarm_faces (code : Nat) (fields : List Byte) (y : Blocks) :
    Blocks.faces (alarm code fields y) = Blocks.faces y := by
  simp [alarm]

@[simp] theorem postModeAll_faces (old new : Mode) (y : Blocks) :
    Blocks.faces (postModeAll old new y) = Blocks.faces y := by
  unfold postModeAll; (repeat' split) <;> simp [foldl_faces]

@[simp] theorem judgeOffer_faces (d : Desc) (y : Blocks) :
    Blocks.faces (judgeOffer d y) = Blocks.faces y := by
  unfold judgeOffer; (repeat' split) <;> simp

@[simp] theorem setEntry_faces (i : Nat) (e : ProgEntry) (y : Blocks) :
    Blocks.faces (setEntry i e y) = Blocks.faces y := by
  simp [setEntry]

@[simp] theorem moveEntry_faces (i : Nat) (new : EntryState) (slot : Option Nat) (o : Option Outcome) (y : Blocks) :
    Blocks.faces (moveEntry i new slot o y) = Blocks.faces y := by
  unfold moveEntry; (repeat' split) <;> simp

@[simp] theorem autoDepart_faces (y : Blocks) :
    Blocks.faces (autoDepart y) = Blocks.faces y := by
  unfold autoDepart
  split
  · apply foldl_faces
    intro y i
    (repeat' split) <;> simp
  · rfl

@[simp] theorem releaseEvent_faces (d : Desc) (y : Blocks) :
    Blocks.faces (releaseEvent d y) = Blocks.faces y := by
  simp [releaseEvent]

@[simp] theorem roadNotice_faces (d : Desc) (n : RoadNotice) (road tram : Nat) (y : Blocks) :
    Blocks.faces (roadNotice d n road tram y) = Blocks.faces y := by
  unfold roadNotice; (repeat' split) <;> simp

@[simp] theorem endedNotice_faces (d : Desc) (movement : Nat) (m : Manner) (y : Blocks) :
    Blocks.faces (endedNotice d movement m y) = Blocks.faces y := by
  unfold endedNotice; (repeat' split) <;> simp

@[simp] theorem areaReport_faces (cause a : Nat) (old new : AreaStatus) (key : Nat) (y : Blocks) :
    Blocks.faces (areaReport cause a old new key y) = Blocks.faces y := by
  simp [areaReport]

@[simp] theorem grantArea_faces (d : Desc) (a : Nat) (y : Blocks) :
    Blocks.faces (grantArea d a y) = Blocks.faces y := by
  simp [grantArea]

@[simp] theorem judgeArea_faces (d : Desc) (a : Nat) (y : Blocks) :
    Blocks.faces (judgeArea d a y) = Blocks.faces y := by
  unfold judgeArea; (repeat' split) <;> simp

@[simp] theorem alarmUnlisted_faces (d : Desc) (road tram : Nat) (y : Blocks) :
    Blocks.faces (alarmUnlisted d road tram y) = Blocks.faces y := by
  unfold alarmUnlisted; (repeat' split) <;> simp

@[simp] theorem roadReport_faces (d : Desc) (cause i : Nat) (extra : List Byte) (y : Blocks) :
    Blocks.faces (roadReport d cause i extra y) = Blocks.faces y := by
  simp [roadReport]

@[simp] theorem alarmDisagree_faces (d : Desc) (i cause : Nat) (tram : Option Nat) (y : Blocks) :
    Blocks.faces (alarmDisagree d i cause tram y) = Blocks.faces y := by
  simp [alarmDisagree]

@[simp] theorem judgeIdle_faces (d : Desc) (i : Nat) (y : Blocks) :
    Blocks.faces (judgeIdle d i y) = Blocks.faces y := by
  unfold judgeIdle; dsimp only; (repeat' split) <;> simp

@[simp] theorem enterIdle_faces (d : Desc) (i : Nat) (y : Blocks) :
    Blocks.faces (enterIdle d i y) = Blocks.faces y := by
  simp [enterIdle]

@[simp] theorem completeArrival_faces (d : Desc) (i : Nat) (y : Blocks) :
    Blocks.faces (completeArrival d i y) = Blocks.faces y := by
  simp [completeArrival]

@[simp] theorem judgeRoad_faces (d : Desc) (i : Nat) (y : Blocks) :
    Blocks.faces (judgeRoad d i y) = Blocks.faces y := by
  unfold judgeRoad; (repeat' split) <;> simp

@[simp] theorem roadTakesChange_faces (d : Desc) (s : Nat) (y : Blocks) :
    Blocks.faces (roadTakesChange d s y) = Blocks.faces y := by
  unfold roadTakesChange; (repeat' split) <;> simp

@[simp] theorem reserveOrigin_faces (d : Desc) (i : Nat) (y : Blocks) :
    Blocks.faces (reserveOrigin d i y) = Blocks.faces y := by
  simp [reserveOrigin]

@[simp] theorem reserveDest_faces (d : Desc) (i tram : Nat) (y : Blocks) :
    Blocks.faces (reserveDest d i tram y) = Blocks.faces y := by
  simp [reserveDest]

@[simp] theorem mouthPassed_faces (d : Desc) (dir : Direction) (i : Nat) (y : Blocks) :
    Blocks.faces (mouthPassed d dir i y) = Blocks.faces y := by
  unfold mouthPassed; dsimp only; (repeat' split) <;> simp

@[simp] theorem givenUp_faces (d : Desc) (dir : Direction) (i : Nat) (y : Blocks) :
    Blocks.faces (givenUp d dir i y) = Blocks.faces y := by
  unfold givenUp; dsimp only; (repeat' split) <;> simp

@[simp] theorem holdExpiry_faces (d : Desc) (i : Nat) (y : Blocks) :
    Blocks.faces (holdExpiry d i y) = Blocks.faces y := by
  unfold holdExpiry; dsimp only; (repeat' split) <;> simp

@[simp] theorem arriveExpiry_faces (d : Desc) (i : Nat) (y : Blocks) :
    Blocks.faces (arriveExpiry d i y) = Blocks.faces y := by
  unfold arriveExpiry; dsimp only; (repeat' split) <;> simp

@[simp] theorem sectionReport_faces (cause i : Nat) (old : Occupancy) (y : Blocks) :
    Blocks.faces (sectionReport cause i old y) = Blocks.faces y := by
  simp [sectionReport]

@[simp] theorem lockSection_faces (slot i : Nat) (y : Blocks) :
    Blocks.faces (lockSection slot i y) = Blocks.faces y := by
  unfold lockSection
  (try split) <;> first | rfl | (simp; exact setSec_faces _ _ _ rfl) | (exact setSec_faces _ _ _ rfl)

@[simp] theorem unlockSection_faces (i : Nat) (y : Blocks) :
    Blocks.faces (unlockSection i y) = Blocks.faces y := by
  unfold unlockSection
  (try split) <;> first | rfl | (simp; exact setSec_faces _ _ _ rfl) | (exact setSec_faces _ _ _ rfl)

@[simp] theorem markOccupied_faces (i : Nat) (y : Blocks) :
    Blocks.faces (markOccupied i y) = Blocks.faces y := by
  unfold markOccupied
  (try split) <;> first | rfl | (simp; exact setSec_faces _ _ _ rfl) | (exact setSec_faces _ _ _ rfl)

@[simp] theorem markFault_faces (i : Nat) (y : Blocks) :
    Blocks.faces (markFault i y) = Blocks.faces y := by
  unfold markFault
  (try split) <;> first | rfl | (simp; exact setSec_faces _ _ _ rfl) | (exact setSec_faces _ _ _ rfl)

@[simp] theorem setAspect_faces (d : Desc) (a : Aspect) (g : Nat) (y : Blocks) :
    Blocks.faces (setAspect d a g y) = Blocks.faces y := by
  unfold setAspect; (repeat' split) <;> simp

@[simp] theorem ownSignal_faces (slot g : Nat) (y : Blocks) :
    Blocks.faces (ownSignal slot g y) = Blocks.faces y := by
  simp [ownSignal]

@[simp] theorem disownSignal_faces (d : Desc) (g : Nat) (y : Blocks) :
    Blocks.faces (disownSignal d g y) = Blocks.faces y := by
  simp [disownSignal]

@[simp] theorem stateReport_faces (d : Desc) (slot : Nat) (old : InstState) (v : RouteInst) (y : Blocks) :
    Blocks.faces (stateReport d slot old v y) = Blocks.faces y := by
  simp [stateReport]

@[simp] theorem changeInst_faces (d : Desc) (slot : Nat) (old v : RouteInst) (y : Blocks) :
    Blocks.faces (changeInst d slot old v y) = Blocks.faces y := by
  simp [changeInst]

@[simp] theorem judgeOpen_faces (d : Desc) (slot : Nat) (y : Blocks) :
    Blocks.faces (judgeOpen d slot y) = Blocks.faces y := by
  unfold judgeOpen; (repeat' split) <;> simp

@[simp] theorem stall_faces (d : Desc) (slot : Nat) (v : RouteInst) (c : StallCause) (y : Blocks) :
    Blocks.faces (stall d slot v c y) = Blocks.faces y := by
  unfold stall; (repeat' split) <;> simp

@[simp] theorem troubleAt_faces (d : Desc) (p : Nat) (c : StallCause) (slot : Nat) (y : Blocks) :
    Blocks.faces (troubleAt d p c slot y) = Blocks.faces y := by
  unfold troubleAt; (repeat' split) <;> simp

@[simp] theorem trouble_faces (d : Desc) (p : Nat) (c : StallCause) (y : Blocks) :
    Blocks.faces (trouble d p c y) = Blocks.faces y := by
  unfold trouble; (repeat' split) <;> simp [foldl_faces]

@[simp] theorem detectionAt_faces (d : Desc) (p : Nat) (old new : Detection) (slot : Nat) (y : Blocks) :
    Blocks.faces (detectionAt d p old new slot y) = Blocks.faces y := by
  unfold detectionAt; (repeat' split) <;> simp

@[simp] theorem instDetection_faces (d : Desc) (p : Nat) (old new : Detection) (y : Blocks) :
    Blocks.faces (instDetection d p old new y) = Blocks.faces y := by
  unfold instDetection; (repeat' split) <;> simp [foldl_faces]

@[simp] theorem endingAt_faces (d : Desc) (p : Nat) (slot : Nat) (y : Blocks) :
    Blocks.faces (endingAt d p slot y) = Blocks.faces y := by
  unfold endingAt; (repeat' split) <;> simp

@[simp] theorem instEnding_faces (d : Desc) (p : Nat) (y : Blocks) :
    Blocks.faces (instEnding d p y) = Blocks.faces y := by
  unfold instEnding; (repeat' split) <;> simp [foldl_faces]

@[simp] theorem modPt_faces (i : Nat) (f : PointState → PointState) (y : Blocks) :
    Blocks.faces (modPt i f y) = Blocks.faces y := by
  simp [modPt]

@[simp] theorem pointReport_faces (cause i : Nat) (y : Blocks) :
    Blocks.faces (pointReport cause i y) = Blocks.faces y := by
  simp [pointReport]

@[simp] theorem judgeMismatch_faces (d : Desc) (i : Nat) (y : Blocks) :
    Blocks.faces (judgeMismatch d i y) = Blocks.faces y := by
  unfold judgeMismatch; dsimp only; (repeat' split) <;> simp

@[simp] theorem present_faces (d : Desc) (i : Nat) (v : Detection) (y : Blocks) :
    Blocks.faces (present d i v y) = Blocks.faces y := by
  unfold present; dsimp only; (repeat' split) <;> simp

@[simp] theorem recompute_faces (d : Desc) (i : Nat) (y : Blocks) :
    Blocks.faces (recompute d i y) = Blocks.faces y := by
  unfold recompute; dsimp only; (repeat' split) <;> simp

@[simp] theorem driveEnding_faces (d : Desc) (i : Nat) (e : Ending) (tests : Bool) (y : Blocks) :
    Blocks.faces (driveEnding d i e tests y) = Blocks.faces y := by
  unfold driveEnding; (repeat' split) <;> simp

@[simp] theorem setOutput_faces (d : Desc) (i : Nat) (x : Option Position) (y : Blocks) :
    Blocks.faces (setOutput d i x y) = Blocks.faces y := by
  unfold setOutput; (repeat' split) <;> simp

@[simp] theorem outputOff_faces (d : Desc) (i : Nat) (y : Blocks) :
    Blocks.faces (outputOff d i y) = Blocks.faces y := by
  unfold outputOff; (repeat' split) <;> simp

@[simp] theorem freeSlot_faces (y : Blocks) :
    Blocks.faces (freeSlot y) = Blocks.faces y := by
  simp [freeSlot]

@[simp] theorem leaveDrive_faces (i : Nat) (y : Blocks) :
    Blocks.faces (leaveDrive i y) = Blocks.faces y := by
  unfold leaveDrive; (repeat' split) <;> simp

@[simp] theorem settleDrive_faces (i : Nat) (st : DriveState) (y : Blocks) :
    Blocks.faces (settleDrive i st y) = Blocks.faces y := by
  simp [settleDrive]

@[simp] theorem completeDrive_faces (d : Desc) (i : Nat) (y : Blocks) :
    Blocks.faces (completeDrive d i y) = Blocks.faces y := by
  simp [completeDrive]

@[simp] theorem withdrawDrive_faces (d : Desc) (i : Nat) (y : Blocks) :
    Blocks.faces (withdrawDrive d i y) = Blocks.faces y := by
  simp [withdrawDrive]

@[simp] theorem failLearning_faces (d : Desc) (i : Nat) (why : LearnFault) (y : Blocks) :
    Blocks.faces (failLearning d i why y) = Blocks.faces y := by
  simp [failLearning]

@[simp] theorem succeedLearning_faces (d : Desc) (i : Nat) (m : Nat) (y : Blocks) :
    Blocks.faces (succeedLearning d i m y) = Blocks.faces y := by
  simp [succeedLearning]

@[simp] theorem judgeLearning_faces (d : Desc) (i : Nat) (y : Blocks) :
    Blocks.faces (judgeLearning d i y) = Blocks.faces y := by
  unfold judgeLearning; (repeat' split) <;> simp

@[simp] theorem startLearning_faces (d : Desc) (i : Nat) (y : Blocks) :
    Blocks.faces (startLearning d i y) = Blocks.faces y := by
  unfold startLearning; dsimp only; (repeat' split) <;> simp

@[simp] theorem grantTo_faces (d : Desc) (i : Nat) (y : Blocks) :
    Blocks.faces (grantTo d i y) = Blocks.faces y := by
  unfold grantTo; dsimp only; (repeat' split) <;> simp

@[simp] theorem grantLoop_faces (d : Desc) (n : Nat) (y : Blocks) :
    Blocks.faces (grantLoop d n y) = Blocks.faces y := by
  induction n generalizing y with
  | zero => rfl
  | succ n ih => unfold grantLoop; (repeat' split) <;> simp [ih]

@[simp] theorem grantSlots_faces (d : Desc) (y : Blocks) :
    Blocks.faces (grantSlots d y) = Blocks.faces y := by
  simp [grantSlots]

@[simp] theorem reverseDrive_faces (d : Desc) (i : Nat) (x : Position) (y : Blocks) :
    Blocks.faces (reverseDrive d i x y) = Blocks.faces y := by
  unfold reverseDrive; (repeat' split) <;> simp

@[simp] theorem commandDone_faces (i : Nat) (y : Blocks) :
    Blocks.faces (commandDone i y) = Blocks.faces y := by
  simp [commandDone]

@[simp] theorem driveCommand_faces (d : Desc) (i : Nat) (x : Position) (y : Blocks) :
    Blocks.faces (driveCommand d i x y) = Blocks.faces y := by
  unfold driveCommand; dsimp only; (repeat' split) <;> simp

@[simp] theorem checkComplete_faces (d : Desc) (i : Nat) (y : Blocks) :
    Blocks.faces (checkComplete d i y) = Blocks.faces y := by
  unfold checkComplete; dsimp only; (repeat' split) <;> simp

@[simp] theorem retarget_faces (d : Desc) (i : Nat) (x : Position) (y : Blocks) :
    Blocks.faces (retarget d i x y) = Blocks.faces y := by
  unfold retarget; dsimp only; (repeat' split) <;> simp

@[simp] theorem routeLock_faces (d : Desc) (slot i : Nat) (x : Position) (y : Blocks) :
    Blocks.faces (routeLock d slot i x y) = Blocks.faces y := by
  simp [routeLock]

@[simp] theorem flankHold_faces (d : Desc) (i : Nat) (x : Position) (y : Blocks) :
    Blocks.faces (flankHold d i x y) = Blocks.faces y := by
  simp [flankHold]

@[simp] theorem routeUnlock_faces (i : Nat) (y : Blocks) :
    Blocks.faces (routeUnlock i y) = Blocks.faces y := by
  simp [routeUnlock]

@[simp] theorem flankRelease_faces (i : Nat) (y : Blocks) :
    Blocks.faces (flankRelease i y) = Blocks.faces y := by
  simp [flankRelease]

@[simp] theorem withdrawInstruction_faces (d : Desc) (i : Nat) (y : Blocks) :
    Blocks.faces (withdrawInstruction d i y) = Blocks.faces y := by
  unfold withdrawInstruction; dsimp only; (repeat' split) <;> simp

@[simp] theorem watchUnbidden_faces (d : Desc) (i : Nat) (y : Blocks) :
    Blocks.faces (watchUnbidden d i y) = Blocks.faces y := by
  unfold watchUnbidden; dsimp only; (repeat' split) <;> simp

@[simp] theorem takeCount_faces (d : Desc) (i : Nat) (y : Blocks) :
    Blocks.faces (takeCount d i y) = Blocks.faces y := by
  unfold takeCount; (repeat' split) <;> simp

@[simp] theorem phaseFault_faces (d : Desc) (i : Nat) (y : Blocks) :
    Blocks.faces (phaseFault d i y) = Blocks.faces y := by
  unfold phaseFault; dsimp only; (repeat' split) <;> simp

@[simp] theorem takePhase_faces (d : Desc) (i : Nat) (a b : Bool) (y : Blocks) :
    Blocks.faces (takePhase d i a b y) = Blocks.faces y := by
  unfold takePhase; dsimp only; (repeat' split) <;> simp

@[simp] theorem learnContact_faces (d : Desc) (i : Nat) (n r : Bool) (y : Blocks) :
    Blocks.faces (learnContact d i n r y) = Blocks.faces y := by
  unfold learnContact; dsimp only; (repeat' split) <;> simp

@[simp] theorem takeContacts_faces (d : Desc) (i : Nat) (n r : Bool) (y : Blocks) :
    Blocks.faces (takeContacts d i n r y) = Blocks.faces y := by
  unfold takeContacts; dsimp only; (repeat' split) <;> simp

@[simp] theorem occupyPoint_faces (d : Desc) (i : Nat) (y : Blocks) :
    Blocks.faces (occupyPoint d i y) = Blocks.faces y := by
  unfold occupyPoint; dsimp only; (repeat' split) <;> simp

@[simp] theorem pointsTakeChange_faces (d : Desc) (s : Nat) (old new : Occupancy) (y : Blocks) :
    Blocks.faces (pointsTakeChange d s old new y) = Blocks.faces y := by
  unfold pointsTakeChange; dsimp only; (repeat' split) <;> simp [foldl_faces]

@[simp] theorem strokeExpiry_faces (d : Desc) (i : Nat) (y : Blocks) :
    Blocks.faces (strokeExpiry d i y) = Blocks.faces y := by
  unfold strokeExpiry; dsimp only; (repeat' split) <;> simp

@[simp] theorem startReturn_faces (d : Desc) (i : Nat) (y : Blocks) :
    Blocks.faces (startReturn d i y) = Blocks.faces y := by
  unfold startReturn; dsimp only; (repeat' split) <;> simp

@[simp] theorem restExpiry_faces (d : Desc) (i : Nat) (y : Blocks) :
    Blocks.faces (restExpiry d i y) = Blocks.faces y := by
  unfold restExpiry; dsimp only; (repeat' split) <;> simp

@[simp] theorem settleExpiry_faces (d : Desc) (i : Nat) (y : Blocks) :
    Blocks.faces (settleExpiry d i y) = Blocks.faces y := by
  unfold settleExpiry; (repeat' split) <;> simp

@[simp] theorem learnExpiry_faces (d : Desc) (i : Nat) (y : Blocks) :
    Blocks.faces (learnExpiry d i y) = Blocks.faces y := by
  unfold learnExpiry; dsimp only; (repeat' split) <;> simp

@[simp] theorem releaseLocks_faces (d : Desc) (v : RouteInst) (i s : Nat) (y : Blocks) :
    Blocks.faces (releaseLocks d v i s y) = Blocks.faces y := by
  unfold releaseLocks; (repeat' split) <;> simp [foldl_faces]

@[simp] theorem releasedReport_faces (slot : Nat) (v : RouteInst) (m : Manner) (y : Blocks) :
    Blocks.faces (releasedReport slot v m y) = Blocks.faces y := by
  simp [releasedReport]

@[simp] theorem noticeEnded_faces (d : Desc) (v : RouteInst) (m : Manner) (y : Blocks) :
    Blocks.faces (noticeEnded d v m y) = Blocks.faces y := by
  unfold noticeEnded; (repeat' split) <;> simp

@[simp] theorem freeSequential_faces (d : Desc) (slot : Nat) (v : RouteInst) (y : Blocks) :
    Blocks.faces (freeSequential d slot v y) = Blocks.faces y := by
  simp [freeSequential]

@[simp] theorem releaseLowest_faces (d : Desc) (slot : Nat) (v : RouteInst) (s : Nat) (y : Blocks) :
    Blocks.faces (releaseLowest d slot v s y) = Blocks.faces y := by
  unfold releaseLowest; dsimp only; (repeat' split) <;> simp

@[simp] theorem sectionClears_faces (d : Desc) (slot : Nat) (v : RouteInst) (s : Nat) (y : Blocks) :
    Blocks.faces (sectionClears d slot v s y) = Blocks.faces y := by
  unfold sectionClears; (repeat' split) <;> simp

@[simp] theorem wholeNotice_faces (d : Desc) (passed : Bool) (v : RouteInst) (y : Blocks) :
    Blocks.faces (wholeNotice d passed v y) = Blocks.faces y := by
  unfold wholeNotice; (repeat' split) <;> simp

@[simp] theorem releaseWhole_faces (d : Desc) (slot : Nat) (v : RouteInst) (m : Manner) (y : Blocks) :
    Blocks.faces (releaseWhole d slot v m y) = Blocks.faces y := by
  unfold releaseWhole; (repeat' split) <;> simp [foldl_faces]

@[simp] theorem alarmEntry_faces (d : Desc) (slot : Nat) (v : RouteInst) (s : Nat) (y : Blocks) :
    Blocks.faces (alarmEntry d slot v s y) = Blocks.faces y := by
  simp [alarmEntry]

@[simp] theorem alarmIntrusion_faces (slot s : Nat) (y : Blocks) :
    Blocks.faces (alarmIntrusion slot s y) = Blocks.faces y := by
  simp [alarmIntrusion]

@[simp] theorem alarmFault_faces (d : Desc) (slot : Nat) (v : RouteInst) (s : Nat) (y : Blocks) :
    Blocks.faces (alarmFault d slot v s y) = Blocks.faces y := by
  unfold alarmFault; (repeat' split) <;> simp

@[simp] theorem changeAlarm_faces (d : Desc) (slot : Nat) (v : RouteInst) (s : Nat) (new : Occupancy) (y : Blocks) :
    Blocks.faces (changeAlarm d slot v s new y) = Blocks.faces y := by
  unfold changeAlarm; dsimp only; (repeat' split) <;> simp

@[simp] theorem instsAlarm_faces (d : Desc) (s : Nat) (new : Occupancy) (y : Blocks) :
    Blocks.faces (instsAlarm d s new y) = Blocks.faces y := by
  unfold instsAlarm; (repeat' split) <;> simp

@[simp] theorem entryAtStop_faces (d : Desc) (slot : Nat) (v : RouteInst) (s : Nat) (y : Blocks) :
    Blocks.faces (entryAtStop d slot v s y) = Blocks.faces y := by
  simp [entryAtStop]

@[simp] theorem takeSectionChange_faces (d : Desc) (slot : Nat) (v : RouteInst) (s : Nat) (new : Occupancy) (y : Blocks) :
    Blocks.faces (takeSectionChange d slot v s new y) = Blocks.faces y := by
  unfold takeSectionChange; dsimp only; (repeat' split) <;> simp

@[simp] theorem instsTakeChange_faces (d : Desc) (s : Nat) (new : Occupancy) (y : Blocks) :
    Blocks.faces (instsTakeChange d s new y) = Blocks.faces y := by
  unfold instsTakeChange; (repeat' split) <;> simp

@[simp] theorem enterCancelling_faces (d : Desc) (slot : Nat) (v : RouteInst) (y : Blocks) :
    Blocks.faces (enterCancelling d slot v y) = Blocks.faces y := by
  unfold enterCancelling; (repeat' split) <;> simp

@[simp] theorem cancelInst_faces (d : Desc) (slot : Nat) (v : RouteInst) (y : Blocks) :
    Blocks.faces ((cancelInst d slot v y).2) = Blocks.faces y := by
  unfold cancelInst; (repeat' split) <;> simp

@[simp] theorem retryInst_faces (d : Desc) (slot : Nat) (v : RouteInst) (y : Blocks) :
    Blocks.faces ((retryInst d slot v y).2) = Blocks.faces y := by
  unfold retryInst; dsimp only; (repeat' split) <;> simp [foldl_faces]

@[simp] theorem handReleaseInst_faces (d : Desc) (slot : Nat) (v : RouteInst) (y : Blocks) :
    Blocks.faces ((handReleaseInst d slot v y).2) = Blocks.faces y := by
  unfold handReleaseInst; (repeat' split) <;> simp

@[simp] theorem approachExpiry_faces (d : Desc) (slot : Nat) (y : Blocks) :
    Blocks.faces (approachExpiry d slot y) = Blocks.faces y := by
  unfold approachExpiry; (repeat' split) <;> simp

@[simp] theorem handReleaseExpiry_faces (d : Desc) (slot : Nat) (y : Blocks) :
    Blocks.faces (handReleaseExpiry d slot y) = Blocks.faces y := by
  unfold handReleaseExpiry; (repeat' split) <;> simp

@[simp] theorem putUnderTest_faces (d : Desc) (i : Nat) (y : Blocks) :
    Blocks.faces (putUnderTest d i y) = Blocks.faces y := by
  simp [putUnderTest]

@[simp] theorem startStep_faces (d : Desc) (k : StepKind) (y : Blocks) :
    Blocks.faces (startStep d k y) = Blocks.faces y := by
  unfold startStep; (repeat' split) <;> simp [foldl_faces]

@[simp] theorem latchFailed_faces (d : Desc) (i : Nat) (y : Blocks) :
    Blocks.faces (latchFailed d i y) = Blocks.faces y := by
  simp [latchFailed]

@[simp] theorem clearUnderTest_faces (d : Desc) (i : Nat) (y : Blocks) :
    Blocks.faces (clearUnderTest d i y) = Blocks.faces y := by
  simp [clearUnderTest]

@[simp] theorem clearTested_faces (y : Blocks) :
    Blocks.faces (clearTested y) = Blocks.faces y := by
  simp [clearTested]

@[simp] theorem cycleEnd_faces (d : Desc) (y : Blocks) :
    Blocks.faces (cycleEnd d y) = Blocks.faces y := by
  simp [cycleEnd]

@[simp] theorem advancePointer_faces (d : Desc) (y : Blocks) :
    Blocks.faces (advancePointer d y) = Blocks.faces y := by
  unfold advancePointer; (repeat' split) <;> simp

@[simp] theorem startProving_faces (d : Desc) (y : Blocks) :
    Blocks.faces (startProving d y) = Blocks.faces y := by
  simp [startProving]

@[simp] theorem intervalExpiry_faces (d : Desc) (y : Blocks) :
    Blocks.faces (intervalExpiry d y) = Blocks.faces y := by
  unfold intervalExpiry; (repeat' split) <;> simp

@[simp] theorem takeOutcome_faces (i : Nat) (r : TestReport) (y : Blocks) :
    Blocks.faces (takeOutcome i r y) = Blocks.faces y := by
  unfold takeOutcome; (repeat' split) <;> simp

@[simp] theorem enterQuietTests_faces (d : Desc) (y : Blocks) :
    Blocks.faces (enterQuietTests d y) = Blocks.faces y := by
  unfold enterQuietTests; dsimp only; (repeat' split) <;> simp

@[simp] theorem abandonStep_faces (d : Desc) (y : Blocks) :
    Blocks.faces (abandonStep d y) = Blocks.faces y := by
  have h : ∀ (xs : List Nat) (y : Blocks), Blocks.faces (xs.foldl (fun y i => emit (.testEnd (d.ptChannel i)) y) y) = Blocks.faces y :=
    fun xs => foldl_faces _ xs fun _ _ => by simp
  have k : ∀ (xs : List Nat) (y : Blocks), Blocks.faces (xs.foldl (fun y i => clearUnderTest d i y) y) = Blocks.faces y :=
    fun xs => foldl_faces _ xs fun _ _ => by simp
  simp [abandonStep, h, k]

@[simp] theorem stopInterval_faces (y : Blocks) :
    Blocks.faces (stopInterval y) = Blocks.faces y := by
  simp [stopInterval]

@[simp] theorem handOn_faces (d : Desc) (i : Nat) (old new : Occupancy) (y : Blocks) :
    Blocks.faces (handOn d i old new y) = Blocks.faces y := by
  simp [handOn]

@[simp] theorem judgeSettled_faces (d : Desc) (y : Blocks) :
    Blocks.faces (judgeSettled d y) = Blocks.faces y := by
  unfold judgeSettled; (repeat' split) <;> simp

@[simp] theorem claimPoint_faces (d : Desc) (slot : Nat) (y : Blocks) (c : Nat × Position) :
    Blocks.faces (claimPoint d slot y c) = Blocks.faces y := by
  unfold claimPoint; dsimp only; (repeat' split) <;> simp

@[simp] theorem claimFlank_faces (d : Desc) (y : Blocks) (c : Nat × Position × Nat) :
    Blocks.faces (claimFlank d y c) = Blocks.faces y := by
  unfold claimFlank; dsimp only; (repeat' split) <;> simp

@[simp] theorem claim_faces (d : Desc) (q : WalkRequest) (l : LinkId) (short : Option (Nat × Nat)) (slot cause : Nat) (extra : Option LinkId) (y : Blocks) :
    Blocks.faces (claim d q l short slot cause extra y) = Blocks.faces y := by
  unfold claim; dsimp only; (repeat' split) <;> simp [foldl_faces]

@[simp] theorem joinWaiting_faces (d : Desc) (q : WalkRequest) (l : LinkId) (tried : Bool) (y : Blocks) :
    Blocks.faces ((joinWaiting d q l tried y).2) = Blocks.faces y := by
  unfold joinWaiting; (repeat' split) <;> simp

@[simp] theorem dropWaiting_faces (definition : Nat) (y : Blocks) :
    Blocks.faces (dropWaiting definition y) = Blocks.faces y := by
  simp [dropWaiting]

@[simp] theorem waitReport_faces (cause : Nat) (e : WaitEntry) (last : List Byte) (y : Blocks) :
    Blocks.faces (waitReport cause e last y) = Blocks.faces y := by
  simp [waitReport]

@[simp] theorem markTried_faces (definition : Nat) (y : Blocks) :
    Blocks.faces (markTried definition y) = Blocks.faces y := by
  simp [markTried]

@[simp] theorem walkWaiting_faces (d : Desc) (y : Blocks) :
    Blocks.faces (walkWaiting d y) = Blocks.faces y := by
  unfold walkWaiting; (repeat' split) <;> simp

@[simp] theorem retryEntry_faces (i : Nat) (y : Blocks) :
    Blocks.faces (retryEntry i y) = Blocks.faces y := by
  unfold retryEntry; (repeat' split) <;> simp

@[simp] theorem walkProgramme_faces (d : Desc) (y : Blocks) :
    Blocks.faces (walkProgramme d y) = Blocks.faces y := by
  unfold walkProgramme; (repeat' split) <;> simp

@[simp] theorem lifeExpiry_faces (definition : Nat) (y : Blocks) :
    Blocks.faces (lifeExpiry definition y) = Blocks.faces y := by
  unfold lifeExpiry; (repeat' split) <;> simp

@[simp] theorem blockNow_faces (i : Nat) (y : Blocks) :
    Blocks.faces (blockNow i y) = Blocks.faces y := by
  unfold blockNow; (repeat' split) <;> simp

@[simp] theorem unblockNow_faces (d : Desc) (i : Nat) (y : Blocks) :
    Blocks.faces (unblockNow d i y) = Blocks.faces y := by
  unfold unblockNow; (repeat' split) <;> simp

@[simp] theorem learnNow_faces (d : Desc) (i : Nat) (y : Blocks) :
    Blocks.faces (learnNow d i y) = Blocks.faces y := by
  simp [learnNow]

@[simp] theorem possessNow_faces (d : Desc) (a key : Nat) (y : Blocks) :
    Blocks.faces (possessNow d a key y) = Blocks.faces y := by
  unfold possessNow; dsimp only; (repeat' split) <;> simp

@[simp] theorem freeArea_faces (d : Desc) (a : Nat) (y : Blocks) :
    Blocks.faces (freeArea d a y) = Blocks.faces y := by
  simp [freeArea]

@[simp] theorem declareNow_faces (d : Desc) (i : Nat) (trams : List Nat) (y : Blocks) :
    Blocks.faces (declareNow d i trams y) = Blocks.faces y := by
  unfold declareNow; dsimp only; (repeat' split) <;> simp [foldl_faces]

@[simp] theorem confirmNow_faces (d : Desc) (i : Nat) (y : Blocks) :
    Blocks.faces (confirmNow d i y) = Blocks.faces y := by
  simp [confirmNow]

@[simp] theorem blockRoadNow_faces (d : Desc) (i : Nat) (y : Blocks) :
    Blocks.faces (blockRoadNow d i y) = Blocks.faces y := by
  unfold blockRoadNow; (repeat' split) <;> simp

@[simp] theorem unblockRoadNow_faces (d : Desc) (i : Nat) (y : Blocks) :
    Blocks.faces (unblockRoadNow d i y) = Blocks.faces y := by
  unfold unblockRoadNow; dsimp only; (repeat' split) <;> simp

@[simp] theorem callEntry_faces (d : Desc) (i : Nat) (y : Blocks) :
    Blocks.faces (callEntry d i y) = Blocks.faces y := by
  unfold callEntry; (repeat' split) <;> simp

@[simp] theorem holdNow_faces (y : Blocks) :
    Blocks.faces (holdNow y) = Blocks.faces y := by
  unfold holdNow; (repeat' split) <;> simp

@[simp] theorem resumeNow_faces (d : Desc) (y : Blocks) :
    Blocks.faces (resumeNow d y) = Blocks.faces y := by
  unfold resumeNow; (repeat' split) <;> simp

@[simp] theorem broadcastHold_faces (_d : Desc) (y : Blocks) :
    Blocks.faces (broadcastHold _d y) = Blocks.faces y := by
  unfold broadcastHold; (repeat' split) <;> simp

@[simp] theorem judgeProgramme_faces (d : Desc) (y : Blocks) :
    Blocks.faces (judgeProgramme d y) = Blocks.faces y := by
  simp [judgeProgramme]

@[simp] theorem loadNow_faces (d : Desc) (items : List ProgItem) (y : Blocks) :
    Blocks.faces (loadNow d items y) = Blocks.faces y := by
  simp [loadNow]

@[simp] theorem appendNow_faces (d : Desc) (items : List ProgItem) (y : Blocks) :
    Blocks.faces (appendNow d items y) = Blocks.faces y := by
  simp [appendNow]

@[simp] theorem setClock_faces (d : Desc) (minute : Nat) (y : Blocks) :
    Blocks.faces (setClock d minute y) = Blocks.faces y := by
  simp [setClock]

@[simp] theorem broadcastTime_faces (minute : Half) (d : Desc) (y : Blocks) :
    Blocks.faces (broadcastTime minute d y) = Blocks.faces y := by
  unfold broadcastTime; (repeat' split) <;> simp

@[simp] theorem minuteExpiry_faces (d : Desc) (y : Blocks) :
    Blocks.faces (minuteExpiry d y) = Blocks.faces y := by
  unfold minuteExpiry; (repeat' split) <;> simp

@[simp] theorem setPending_faces (g : Nat) (y : Blocks) :
    Blocks.faces (setPending g y) = Blocks.faces y := by
  simp [setPending]


end Sys2Proof.Machine
end

