-- ==== Sys2Proof/Laws/Links.lean ====
section
/-! SUPPORT. What the end of a step, an accepted request, a posted answer and a posted report do,
said once for the statements about links, answers and reports. -/

namespace Sys2Proof.Machine

/-! ### One link at a time -/

theorem link_setLink (l k : LinkId) (v : LinkUnit) (y : Blocks) :
    (setLink l v y).link k = if k = l then v else y.link k := by
  cases l <;> cases k <;> rfl

@[simp] theorem link_setRep (l k : LinkId) (v : ReportUnit) (y : Blocks) :
    (setRep l v y).link k = y.link k := rfl

theorem rep_setRep (l k : LinkId) (v : ReportUnit) (y : Blocks) :
    (setRep l v y).rep k = if k = l then v else y.rep k := by
  cases l <;> cases k <;> rfl

@[simp] theorem rep_setLink (l k : LinkId) (v : LinkUnit) (y : Blocks) :
    (setLink l v y).rep k = y.rep k := rfl

/-! ### The yard under link operations -/

@[simp] theorem setLink_yard (l : LinkId) (v : LinkUnit) (y : Blocks) :
    (setLink l v y).yard = y.yard := rfl
@[simp] theorem setRep_yard (l : LinkId) (v : ReportUnit) (y : Blocks) :
    (setRep l v y).yard = y.yard := rfl

@[simp] theorem endFrame_yard (l : LinkId) (y : Blocks) : (endFrame l y).yard = y.yard := rfl

@[simp] theorem placeAnswer_yard (l : LinkId) (kind : Byte) (body : List Byte) (y : Blocks) :
    (placeAnswer l kind body y).yard = y.yard := by
  unfold placeAnswer; split <;> rfl

@[simp] theorem answer_yard (l : LinkId) (kind : Byte) (code : Nat) (data : List Byte) (y : Blocks) :
    (answer l kind code data y).yard = y.yard := placeAnswer_yard ..

@[simp] theorem wrongMode_yard (l : LinkId) (kind : Byte) (y : Blocks) :
    (wrongMode l kind y).yard = y.yard := answer_yard ..

@[simp] theorem postTo_yard (l : LinkId) (f : Frame) (y : Blocks) : (postTo l f y).yard = y.yard := by
  unfold postTo; split <;> rfl

theorem foldl_yard {α : Type} (f : Blocks → α → Blocks) (xs : List α)
    (h : ∀ y a, (f y a).yard = y.yard) (y : Blocks) : (xs.foldl f y).yard = y.yard := by
  induction xs generalizing y with
  | nil => rfl
  | cons a xs ih => rw [List.foldl_cons, ih, h]

@[simp] theorem postAlso_yard (c : ReportClass) (extra : Option LinkId) (body : List Byte) (y : Blocks) :
    (postAlso c extra body y).yard = y.yard := foldl_yard _ _ (fun _ _ => postTo_yard ..) _

@[simp] theorem post_yard (c : ReportClass) (body : List Byte) (y : Blocks) :
    (post c body y).yard = y.yard := postAlso_yard ..

@[simp] theorem alarm_yard (code : Nat) (fields : List Byte) (y : Blocks) :
    (alarm code fields y).yard = y.yard := post_yard ..

@[simp] theorem startTx_yard (l : LinkId) (y : Blocks) : (startTx l y).yard = y.yard := by
  unfold startTx; repeat' split
  all_goals rfl

@[simp] theorem judgeHoldOff_yard (l : LinkId) (y : Blocks) : (judgeHoldOff l y).yard = y.yard := rfl

/-- The end of a step leaves the yard. -/
@[simp] theorem settle_yard (y : Blocks) : (settle y).yard = y.yard :=
  foldl_yard _ _ (fun _ _ => by simp) _

/-! ### The end of a step on one link -/

theorem startTx_link_other (l k : LinkId) (y : Blocks) (h : k ≠ l) :
    (startTx l y).link k = y.link k := by
  unfold startTx; repeat' split
  all_goals simp [link_setLink, h]

theorem startTx_rep_other (l k : LinkId) (y : Blocks) (h : k ≠ l) :
    (startTx l y).rep k = y.rep k := by
  unfold startTx; repeat' split
  all_goals simp [rep_setRep, h]

theorem startTx_still (l : LinkId) (y : Blocks) :
    ((startTx l y).link l).still = (y.link l).still := by
  unfold startTx; repeat' split
  all_goals simp [LinkUnit.still]

theorem startTx_rep (l : LinkId) (y : Blocks) :
    (startTx l y).rep l = y.rep l ∨
      (y.link l).tx = .idle ∧
        (startTx l y).rep l = { y.rep l with queue := (y.rep l).queue.drop 1 } := by
  unfold startTx
  split
  · exact .inl rfl
  · rename_i hc
    split
    · exact .inl rfl
    · rename_i f rest _ hq
      refine .inr ⟨by simp only [not_or, ne_eq, Decidable.not_not] at hc; exact hc.1, ?_⟩
      simp [hq]
    · exact .inl rfl

/-- One link's share of the end of a step. -/
def settleLink (l : LinkId) (y : Blocks) : Blocks := judgeHoldOff l (startTx l y)

theorem settle_eq (y : Blocks) : settle y = settleLink .c (settleLink .b (settleLink .a y)) := rfl

theorem settleLink_link_other (l k : LinkId) (y : Blocks) (h : k ≠ l) :
    (settleLink l y).link k = y.link k := by
  simp [settleLink, judgeHoldOff, link_setLink, h, startTx_link_other]

theorem settleLink_rep_other (l k : LinkId) (y : Blocks) (h : k ≠ l) :
    (settleLink l y).rep k = y.rep k := by
  simp [settleLink, judgeHoldOff, startTx_rep_other l k y h]

theorem settleLink_still (l : LinkId) (y : Blocks) :
    ((settleLink l y).link l).still = (y.link l).still := by
  rw [← startTx_still l y]
  simp [settleLink, judgeHoldOff, LinkUnit.still]

/-- The end of a step changes of a link unit its transmitter and its hold-off line only. -/
theorem settle_still (y : Blocks) (l : LinkId) : ((settle y).link l).still = (y.link l).still := by
  cases l <;> simp [settle_eq, settleLink_link_other, settleLink_still]

theorem settleLink_holdOff (l : LinkId) (y : Blocks) :
    ((settleLink l y).link l).holdOff =
      (((settleLink l y).link l).staged.isSome ||
        decide (2 ≤ ((settleLink l y).link l).occupancy)) := by
  cases l <;> rfl

/-- R174 at the end of a step. -/
theorem settle_holdOff (y : Blocks) (l : LinkId) :
    ((settle y).link l).holdOff =
      (((settle y).link l).staged.isSome || decide (2 ≤ ((settle y).link l).occupancy)) := by
  rw [settle_eq]
  cases l
  · rw [settleLink_link_other _ _ _ (by decide), settleLink_link_other _ _ _ (by decide)]
    exact settleLink_holdOff ..
  · rw [settleLink_link_other _ _ _ (by decide)]; exact settleLink_holdOff ..
  · exact settleLink_holdOff ..

theorem settleLink_rep (l : LinkId) (y : Blocks) :
    (settleLink l y).rep l = y.rep l ∨
      (y.link l).tx = .idle ∧
        (settleLink l y).rep l = { y.rep l with queue := (y.rep l).queue.drop 1 } :=
  startTx_rep l y

/-- The end of a step leaves a report queue, or gives its head to an idle transmitter. -/
theorem settle_rep (y : Blocks) (l : LinkId) :
    (settle y).rep l = y.rep l ∨
      (y.link l).tx = .idle ∧
        (settle y).rep l = { y.rep l with queue := (y.rep l).queue.drop 1 } := by
  have ha := settleLink_rep .a y
  have hb := settleLink_rep .b (settleLink .a y)
  have hc := settleLink_rep .c (settleLink .b (settleLink .a y))
  rw [settleLink_rep_other .a .b y (by decide), settleLink_link_other .a .b y (by decide)] at hb
  rw [settleLink_rep_other .b .c _ (by decide), settleLink_link_other .b .c _ (by decide),
    settleLink_rep_other .a .c y (by decide), settleLink_link_other .a .c y (by decide)] at hc
  rw [settle_eq]
  cases l
  · rw [settleLink_rep_other _ _ _ (by decide), settleLink_rep_other _ _ _ (by decide)]; exact ha
  · rw [settleLink_rep_other _ _ _ (by decide)]; exact hb
  · exact hc

/-! ### Answers -/

/-- R173: an answer placed while the buffer has room. -/
theorem placeAnswer_room (l : LinkId) (kind : Byte) (body : List Byte) (y : Blocks)
    (h : (y.link l).answers.length < 4) :
    placeAnswer l kind body y =
      setLink l { y.link l with answers := (y.link l).answers ++ [⟨kind, body⟩] } y := by
  unfold placeAnswer; rw [if_neg (by omega)]

theorem onlyBlocks_finish (op : Desc → Blocks → Blocks) (s : State) :
    OnlyBlocks s (finish (onBlocks op s)) := rfl

/-- A command that moves no report and whose end is judged posts no report. -/
theorem noReport_finish (s t : State) (h : ∀ k, t.blk.rep k = s.blk.rep k)
    (ht : ∀ k, (t.blk.link k).tx = (s.blk.link k).tx) : NoReport s (finish t) := by
  intro k
  have hs := settle_rep t.blk k
  rw [h k, ht k] at hs
  rcases hs with hs | ⟨hi, hs⟩
  · exact ⟨by simp [finish, hs], .inl (by simp [finish, hs])⟩
  · exact ⟨by simp [finish, hs], .inr ⟨hi, by simp [finish, hs]⟩⟩

/-- R172: a request that gets an answer and nothing else. -/
theorem onlyAnswers_placeAnswer (s : State) (l : LinkId) (kind : Byte) (body : List Byte)
    (h : (s.blk.link l).answers.length < 4) :
    OnlyAnswers s (finish (onBlocks (fun _ y => placeAnswer l kind body (endFrame l y)) s)) l kind
      body := by
  have hroom : ((endFrame l s.blk).link l).answers.length < 4 := by
    simpa [endFrame, link_setLink] using h
  refine ⟨⟨rfl, ?_⟩, ?_, ?_⟩
  · intro k
    show ((settle _).link k).still = _
    rw [settle_still]
    show ((placeAnswer l kind body (endFrame l s.blk)).link k).still = _
    rw [placeAnswer_room _ _ _ _ hroom]
    by_cases hk : k = l
    · subst hk; simp [endFrame, LinkUnit.still, LinkUnit.ended]
    · simp [link_setLink, endFrame, hk]
  · show (settle _).yard = _
    rw [settle_yard]
    show (placeAnswer l kind body (endFrame l s.blk)).yard = _
    simp
  · refine noReport_finish s _ (fun k => ?_) (fun k => ?_)
    · show (placeAnswer l kind body (endFrame l s.blk)).rep k = _
      rw [placeAnswer_room _ _ _ _ hroom]; rfl
    · show ((placeAnswer l kind body (endFrame l s.blk)).link k).tx = _
      rw [placeAnswer_room _ _ _ _ hroom]
      by_cases hk : k = l
      · subst hk; simp [endFrame]
      · simp [link_setLink, endFrame, hk]

/-! ### Acceptance (R172) -/

theorem passFrame_hand (s : State) (l : LinkId) (kind : Byte) (len : Nat) (r : CatRow)
    (h : CanSend s l kind) (hr : catRow kind = some r) (hl : r.len.ok len = true) :
    passFrame s.desc l kind len s.blk = .hand := by
  obtain ⟨⟨hb, ha⟩, ho, hp⟩ := h
  unfold passFrame
  rw [if_neg (by simp [hb, ha]), if_neg (by omega), hr]
  simp only [hl]
  rw [if_neg (by simp), if_neg]
  intro hc
  have := hp r hr hc.1
  rw [this] at hc
  exact absurd hc.2 (by simp)

/-- A request that its link may send, of a right length, goes to its owner. -/
theorem takeRequest_hand (s : State) (l : LinkId) (kind : Byte) (len : Nat) (r : CatRow)
    (owner : State → State) (h : CanSend s l kind) (hr : catRow kind = some r)
    (hl : r.len.ok len = true) :
    takeRequest l kind len owner s = owner (onBlocks (fun _ y => endFrame l y) s) := by
  unfold takeRequest; rw [passFrame_hand s l kind len r h hr hl]

/-! ### Reports -/

@[simp] theorem postTo_link (l k : LinkId) (f : Frame) (y : Blocks) :
    (postTo l f y).link k = y.link k := by
  unfold postTo; split <;> rfl

@[simp] theorem postTo_ctl (l : LinkId) (f : Frame) (y : Blocks) : (postTo l f y).ctl = y.ctl := by
  unfold postTo; split <;> rfl

@[simp] theorem postTo_addressed (l : LinkId) (f : Frame) (y : Blocks) :
    (postTo l f y).addressed = y.addressed := by simp [Blocks.addressed]

/-- R175: what one report does to the report unit of its link. -/
def taken (y : Blocks) (k : LinkId) (f : Frame) : ReportUnit :=
  if (y.link k).rx = .inBreak ∨ y.addressed = false ∨ 16 ≤ (y.rep k).queue.length then
    { y.rep k with lost := true }
  else { y.rep k with queue := (y.rep k).queue ++ [f] }

theorem postTo_rep (l k : LinkId) (f : Frame) (y : Blocks) :
    (postTo l f y).rep k = if k = l then taken y l f else y.rep k := by
  unfold postTo taken; split <;> exact rep_setRep ..

/-- R175: a report goes once to each link that receives it, and to no other. -/
theorem postAlso_rep (c : ReportClass) (extra : Option LinkId) (body : List Byte) (k : LinkId)
    (y : Blocks) : (postAlso c extra body y).rep k =
      if receives y c extra k = true then taken y k ⟨c.kind, body⟩ else y.rep k := by
  unfold postAlso links3
  cases ha : receives y c extra .a <;> cases hb : receives y c extra .b <;>
    cases hc : receives y c extra .c <;> cases k <;>
    simp [ha, hb, hc, postTo_rep, taken]

/-- R175: a report goes to every subscribing link, and to no other. -/
theorem post_rep (c : ReportClass) (body : List Byte) (k : LinkId) (y : Blocks) :
    (post c body y).rep k =
      if hasBit (y.link k).subscription c.bit = true then taken y k ⟨c.kind, body⟩ else y.rep k := by
  rw [post, postAlso_rep]; simp [receives]

@[simp] theorem post_link (c : ReportClass) (body : List Byte) (k : LinkId) (y : Blocks) :
    (post c body y).link k = y.link k := by
  unfold post postAlso
  generalize links3.filter (receives y c none) = ls
  induction ls generalizing y with
  | nil => rfl
  | cons l ls ih => rw [List.foldl_cons, ih, postTo_link]

/-- A report taken stays, later ones behind it. -/
theorem mem_taken {y : Blocks} {k : LinkId} {f g : Frame} (h : g ∈ (y.rep k).queue) :
    g ∈ (taken y k f).queue := by
  unfold taken; split
  · exact h
  · exact List.mem_append_left _ h

theorem startTx_posted (l : LinkId) (f : Frame) (y : Blocks)
    (h : f ∈ (y.rep l).queue ∨ (y.link l).tx = .report f) :
    f ∈ ((startTx l y).rep l).queue ∨ ((startTx l y).link l).tx = .report f := by
  unfold startTx
  split
  · exact h
  · rename_i hc
    simp only [not_or, ne_eq, Decidable.not_not] at hc
    have hq : f ∈ (y.rep l).queue := h.resolve_right (by rw [hc.1]; exact fun h => nomatch h)
    split
    · exact .inl hq
    · rename_i g rest _ hr
      rw [hr] at hq
      rcases List.mem_cons.1 hq with rfl | hq
      · exact .inr (by simp)
      · exact .inl (by simp [hq])
    · exact .inl hq

/-- A report that stands in a queue, or is being sent, at the end of a step is posted after it. -/
theorem posted_settle (y : Blocks) (k : LinkId) (f : Frame)
    (h : f ∈ (y.rep k).queue ∨ (y.link k).tx = .report f) :
    f ∈ ((settle y).rep k).queue ∨ ((settle y).link k).tx = .report f := by
  have one : ∀ l (y : Blocks), (f ∈ (y.rep k).queue ∨ (y.link k).tx = .report f) →
      f ∈ ((settleLink l y).rep k).queue ∨ ((settleLink l y).link k).tx = .report f := by
    intro l y h
    by_cases hk : k = l
    · subst hk
      have := startTx_posted k f y h
      simpa [settleLink, judgeHoldOff, link_setLink] using this
    · rwa [settleLink_rep_other _ _ _ hk, settleLink_link_other _ _ _ hk]
  rw [settle_eq]
  exact one _ _ (one _ _ (one _ _ h))

end Sys2Proof.Machine
end

