-- ==== Sys2Proof/Laws/Memory.lean ====
section
/-! SUPPORT. The description memory: every operation keeps its canonical form, and what a byte
reads as after a write. -/

namespace Sys2Proof.Machine

theorem memWfFrom_mono (lo hi : Nat) (m : List Host.Cell) (h : lo ≤ hi)
    (w : memWfFrom hi m = true) : memWfFrom lo m = true := by
  cases m with
  | nil => rfl
  | cons c rest =>
    obtain ⟨k, v⟩ := c
    simp only [memWfFrom, Bool.and_eq_true, decide_eq_true_eq] at w ⊢
    exact ⟨⟨by omega, w.1.2⟩, w.2⟩

theorem memErase_wfFrom (lo a : Nat) (m : List Host.Cell) (w : memWfFrom lo m = true) :
    memWfFrom lo (memErase m a) = true := by
  induction m generalizing lo with
  | nil => rfl
  | cons c rest ih =>
    obtain ⟨k, v⟩ := c
    simp only [memWfFrom, Bool.and_eq_true, decide_eq_true_eq] at w
    simp only [memErase]
    split
    · exact memWfFrom_mono lo (k + 1) _ (by omega) (ih (k + 1) w.2)
    · simp only [memWfFrom, Bool.and_eq_true, decide_eq_true_eq]
      exact ⟨w.1, ih (k + 1) w.2⟩

theorem memInsert_wfFrom (lo a : Nat) (b : Byte) (m : List Host.Cell) (w : memWfFrom lo m = true)
    (ha : lo ≤ a) (hb : b ≠ memDefault) : memWfFrom lo (memInsert m a b) = true := by
  induction m generalizing lo with
  | nil => simp [memInsert, memWfFrom, ha, hb]
  | cons c rest ih =>
    obtain ⟨k, v⟩ := c
    simp only [memWfFrom, Bool.and_eq_true, decide_eq_true_eq] at w
    simp only [memInsert]
    split
    · simp only [memWfFrom, Bool.and_eq_true, decide_eq_true_eq]
      exact ⟨⟨ha, hb⟩, ⟨by omega, w.1.2⟩, w.2⟩
    · split
      · rename_i e
        subst e
        simp only [memWfFrom, Bool.and_eq_true, decide_eq_true_eq]
        exact ⟨⟨ha, hb⟩, w.2⟩
      · simp only [memWfFrom, Bool.and_eq_true, decide_eq_true_eq]
        exact ⟨w.1, ih (k + 1) w.2 (by omega)⟩

theorem memWrite_wf (m : List Host.Cell) (a : Nat) (b : Byte) (w : Memory.wf m = true) :
    Memory.wf (memWrite m a b) = true := by
  simp only [memWrite]
  split
  · exact memErase_wfFrom 0 a m w
  · exact memInsert_wfFrom 0 a b m w (Nat.zero_le _) (by assumption)

theorem memWriteAll_wf (bs : List Byte) (m : List Host.Cell) (a : Nat) (w : Memory.wf m = true) :
    Memory.wf (memWriteAll m a bs) = true := by
  induction bs generalizing m a with
  | nil => exact w
  | cons b bs ih => exact ih _ _ (memWrite_wf m a b w)

theorem memory_reset_wf : Memory.wf State.reset.desc.mem = true := rfl

theorem memRead_erase_same (m : List Host.Cell) (a : Nat) : memRead (memErase m a) a = memDefault := by
  induction m with
  | nil => rfl
  | cons c rest ih =>
    obtain ⟨k, v⟩ := c
    simp only [memErase]
    split
    · exact ih
    · simp [memRead, *]

theorem memRead_erase_other (m : List Host.Cell) (a x : Nat) (h : x ≠ a) :
    memRead (memErase m a) x = memRead m x := by
  induction m with
  | nil => rfl
  | cons c rest ih =>
    obtain ⟨k, v⟩ := c
    simp only [memErase]
    split
    · rename_i e
      subst e
      rw [ih, memRead, if_neg (fun e => h e.symm)]
    · simp only [memRead, ih]

theorem memRead_insert_same (m : List Host.Cell) (a : Nat) (b : Byte) :
    memRead (memInsert m a b) a = b := by
  induction m with
  | nil => simp [memInsert, memRead]
  | cons c rest ih =>
    obtain ⟨k, v⟩ := c
    simp only [memInsert]
    split
    · simp [memRead]
    · split
      · simp [memRead]
      · rename_i h
        rw [memRead, if_neg (fun e => h e.symm)]
        exact ih

theorem memRead_insert_other (m : List Host.Cell) (a x : Nat) (b : Byte) (h : x ≠ a) :
    memRead (memInsert m a b) x = memRead m x := by
  induction m with
  | nil => simp [memInsert, memRead, Ne.symm h]
  | cons c rest ih =>
    obtain ⟨k, v⟩ := c
    simp only [memInsert]
    split
    · rw [memRead, if_neg (fun e => h e.symm)]
    · split
      · rename_i e
        subst e
        simp [memRead, Ne.symm h]
      · simp only [memRead, ih]

/-- One byte after one write. -/
theorem memRead_write (m : List Host.Cell) (a x : Nat) (b : Byte) :
    memRead (memWrite m a b) x = if x = a then b else memRead m x := by
  simp only [memWrite]
  split
  · rename_i e
    split
    · rename_i f
      rw [f, memRead_erase_same, e]
    · exact memRead_erase_other m a x (by assumption)
  · split
    · rename_i f
      rw [f, memRead_insert_same]
    · exact memRead_insert_other m a x b (by assumption)

/-- One byte after a block is written: inside the block the written byte, outside as before. -/
theorem memRead_writeAll (bs : List Byte) (m : List Host.Cell) (a x : Nat) :
    memRead (memWriteAll m a bs) x =
      if a ≤ x ∧ x < a + bs.length then bs.getD (x - a) memDefault else memRead m x := by
  induction bs generalizing m a with
  | nil =>
    have h : ¬(a ≤ x ∧ x < a + ([] : List Byte).length) := by
      simp only [List.length_nil]; omega
    rw [if_neg h]; rfl
  | cons b bs ih =>
    rw [memWriteAll, ih, memRead_write]
    by_cases h : x = a
    · subst h
      rw [if_neg (by omega), if_pos rfl, if_pos ⟨Nat.le_refl _, by simp⟩]
      simp
    · by_cases k : a + 1 ≤ x ∧ x < a + 1 + bs.length
      · rw [if_pos k, if_pos ⟨by omega, by simp only [List.length_cons]; omega⟩]
        have e : x - a = (x - (a + 1)) + 1 := by omega
        rw [e, List.getD_cons_succ]
      · rw [if_neg k, if_neg h, if_neg]
        simp only [List.length_cons]
        omega

end Sys2Proof.Machine
end

