-- ==== Sys2Proof/Laws/Outer.lean ====
section
/-! SUPPORT. The frame of the mode controller and the link units: mode and link changes aside, every yard operation leaves them as they are. -/

namespace Sys2Proof.Machine

/-- The mode controller and the link units, as one value. -/
def Blocks.outer (y : Blocks) := (y.ctl, y.links)

theorem foldl_outer {α : Type} (f : Blocks → α → Blocks) (xs : List α)
    (h : ∀ y a, Blocks.outer (f y a) = Blocks.outer y) (y : Blocks) :
    Blocks.outer (xs.foldl f y) = Blocks.outer y := by
  induction xs generalizing y with
  | nil => rfl
  | cons a xs ih => rw [List.foldl_cons, ih, h]

@[simp] theorem update_outer (y : Blocks) (secs : Vector SectionState 96) (settleWatch : Bool) (sigs : Vector SignalState 64) (pts : Vector PointState 48) (queue : List Nat) (slots : Nat) (tst : TestState) (rot : Turn) (insts : Vector (Option RouteInst) 24) (wait : List WaitEntry) (roads : Vector RoadState 24) (fleet : List FleetEntry) (prog : Programme) (areas : Vector AreaState 8) (reps : PerLink ReportUnit) (out : List FieldCmd) :
    Blocks.outer { y with secs := secs, settleWatch := settleWatch, sigs := sigs, pts := pts, queue := queue, slots := slots, tst := tst, rot := rot, insts := insts, wait := wait, roads := roads, fleet := fleet, prog := prog, areas := areas, reps := reps, out := out } = Blocks.outer y := rfl

@[simp] theorem setSec_outer (i : Nat) (v : SectionState) (y : Blocks) :
    Blocks.outer (setSec i v y) = Blocks.outer y := rfl
@[simp] theorem setSig_outer (i : Nat) (v : SignalState) (y : Blocks) :
    Blocks.outer (setSig i v y) = Blocks.outer y := rfl
@[simp] theorem setPt_outer (i : Nat) (v : PointState) (y : Blocks) :
    Blocks.outer (setPt i v y) = Blocks.outer y := rfl
@[simp] theorem setInst_outer (i : Nat) (v : Option RouteInst) (y : Blocks) :
    Blocks.outer (setInst i v y) = Blocks.outer y := rfl
@[simp] theorem setRoad_outer (i : Nat) (v : RoadState) (y : Blocks) :
    Blocks.outer (setRoad i v y) = Blocks.outer y := rfl
@[simp] theorem setArea_outer (i : Nat) (v : AreaState) (y : Blocks) :
    Blocks.outer (setArea i v y) = Blocks.outer y := rfl
@[simp] theorem setRep_outer (l : LinkId) (v : ReportUnit) (y : Blocks) :
    Blocks.outer (setRep l v y) = Blocks.outer y := rfl
@[simp] theorem emit_outer (c : FieldCmd) (y : Blocks) :
    Blocks.outer (emit c y) = Blocks.outer y := rfl

@[simp] theorem postTo_outer (l : LinkId) (f : Frame) (y : Blocks) :
    Blocks.outer (postTo l f y) = Blocks.outer y := by
  unfold postTo; (repeat' split) <;> simp

@[simp] theorem postAlso_outer (c : ReportClass) (extra : Option LinkId) (body : List Byte) (y : Blocks) :
    Blocks.outer (postAlso c extra body y) = Blocks.outer y := by
  unfold postAlso; (repeat' split) <;> simp [foldl_outer]

@[simp] theorem post_outer (c : ReportClass) (body : List Byte) (y : Blocks) :
    Blocks.outer (post c body y) = Blocks.outer y := by
  simp [post]

@[simp] theorem alarm_outer (code : Nat) (fields : List Byte) (y : Blocks) :
    Blocks.outer (alarm code fields y) = Blocks.outer y := by
  simp [alarm]

@[simp] theorem postModeAll_outer (old new : Mode) (y : Blocks) :
    Blocks.outer (postModeAll old new y) = Blocks.outer y := by
  unfold postModeAll; (repeat' split) <;> simp [foldl_outer]

@[simp] theorem judgeOffer_outer (d : Desc) (y : Blocks) :
    Blocks.outer (judgeOffer d y) = Blocks.outer y := by
  unfold judgeOffer; (repeat' split) <;> simp

@[simp] theorem setEntry_outer (i : Nat) (e : ProgEntry) (y : Blocks) :
    Blocks.outer (setEntry i e y) = Blocks.outer y := by
  simp [setEntry]

@[simp] theorem moveEntry_outer (i : Nat) (new : EntryState) (slot : Option Nat) (o : Option Outcome) (y : Blocks) :
    Blocks.outer (moveEntry i new slot o y) = Blocks.outer y := by
  unfold moveEntry; (repeat' split) <;> simp

@[simp] theorem autoDepart_outer (y : Blocks) :
    Blocks.outer (autoDepart y) = Blocks.outer y := by
  unfold autoDepart
  split
  · apply foldl_outer
    intro y i
    (repeat' split) <;> simp
  · rfl

@[simp] theorem releaseEvent_outer (d : Desc) (y : Blocks) :
    Blocks.outer (releaseEvent d y) = Blocks.outer y := by
  simp [releaseEvent]

@[simp] theorem roadNotice_outer (d : Desc) (n : RoadNotice) (road tram : Nat) (y : Blocks) :
    Blocks.outer (roadNotice d n road tram y) = Blocks.outer y := by
  unfold roadNotice; (repeat' split) <;> simp

@[simp] theorem endedNotice_outer (d : Desc) (movement : Nat) (m : Manner) (y : Blocks) :
    Blocks.outer (endedNotice d movement m y) = Blocks.outer y := by
  unfold endedNotice; (repeat' split) <;> simp

@[simp] theorem areaReport_outer (cause a : Nat) (old new : AreaStatus) (key : Nat) (y : Blocks) :
    Blocks.outer (areaReport cause a old new key y) = Blocks.outer y := by
  simp [areaReport]

@[simp] theorem grantArea_outer (d : Desc) (a : Nat) (y : Blocks) :
    Blocks.outer (grantArea d a y) = Blocks.outer y := by
  simp [grantArea]

@[simp] theorem judgeArea_outer (d : Desc) (a : Nat) (y : Blocks) :
    Blocks.outer (judgeArea d a y) = Blocks.outer y := by
  unfold judgeArea; (repeat' split) <;> simp

@[simp] theorem alarmUnlisted_outer (d : Desc) (road tram : Nat) (y : Blocks) :
    Blocks.outer (alarmUnlisted d road tram y) = Blocks.outer y := by
  unfold alarmUnlisted; (repeat' split) <;> simp

@[simp] theorem roadReport_outer (d : Desc) (cause i : Nat) (extra : List Byte) (y : Blocks) :
    Blocks.outer (roadReport d cause i extra y) = Blocks.outer y := by
  simp [roadReport]

@[simp] theorem alarmDisagree_outer (d : Desc) (i cause : Nat) (tram : Option Nat) (y : Blocks) :
    Blocks.outer (alarmDisagree d i cause tram y) = Blocks.outer y := by
  simp [alarmDisagree]

@[simp] theorem judgeIdle_outer (d : Desc) (i : Nat) (y : Blocks) :
    Blocks.outer (judgeIdle d i y) = Blocks.outer y := by
  unfold judgeIdle; dsimp only; (repeat' split) <;> simp

@[simp] theorem enterIdle_outer (d : Desc) (i : Nat) (y : Blocks) :
    Blocks.outer (enterIdle d i y) = Blocks.outer y := by
  simp [enterIdle]

@[simp] theorem completeArrival_outer (d : Desc) (i : Nat) (y : Blocks) :
    Blocks.outer (completeArrival d i y) = Blocks.outer y := by
  simp [completeArrival]

@[simp] theorem judgeRoad_outer (d : Desc) (i : Nat) (y : Blocks) :
    Blocks.outer (judgeRoad d i y) = Blocks.outer y := by
  unfold judgeRoad; (repeat' split) <;> simp

@[simp] theorem roadTakesChange_outer (d : Desc) (s : Nat) (y : Blocks) :
    Blocks.outer (roadTakesChange d s y) = Blocks.outer y := by
  unfold roadTakesChange; (repeat' split) <;> simp

@[simp] theorem reserveOrigin_outer (d : Desc) (i : Nat) (y : Blocks) :
    Blocks.outer (reserveOrigin d i y) = Blocks.outer y := by
  simp [reserveOrigin]

@[simp] theorem reserveDest_outer (d : Desc) (i tram : Nat) (y : Blocks) :
    Blocks.outer (reserveDest d i tram y) = Blocks.outer y := by
  simp [reserveDest]

@[simp] theorem mouthPassed_outer (d : Desc) (dir : Direction) (i : Nat) (y : Blocks) :
    Blocks.outer (mouthPassed d dir i y) = Blocks.outer y := by
  unfold mouthPassed; dsimp only; (repeat' split) <;> simp

@[simp] theorem givenUp_outer (d : Desc) (dir : Direction) (i : Nat) (y : Blocks) :
    Blocks.outer (givenUp d dir i y) = Blocks.outer y := by
  unfold givenUp; dsimp only; (repeat' split) <;> simp

@[simp] theorem holdExpiry_outer (d : Desc) (i : Nat) (y : Blocks) :
    Blocks.outer (holdExpiry d i y) = Blocks.outer y := by
  unfold holdExpiry; dsimp only; (repeat' split) <;> simp

@[simp] theorem arriveExpiry_outer (d : Desc) (i : Nat) (y : Blocks) :
    Blocks.outer (arriveExpiry d i y) = Blocks.outer y := by
  unfold arriveExpiry; dsimp only; (repeat' split) <;> simp

@[simp] theorem sectionReport_outer (cause i : Nat) (old : Occupancy) (y : Blocks) :
    Blocks.outer (sectionReport cause i old y) = Blocks.outer y := by
  simp [sectionReport]

@[simp] theorem lockSection_outer (slot i : Nat) (y : Blocks) :
    Blocks.outer (lockSection slot i y) = Blocks.outer y := by
  simp [lockSection]

@[simp] theorem unlockSection_outer (i : Nat) (y : Blocks) :
    Blocks.outer (unlockSection i y) = Blocks.outer y := by
  simp [unlockSection]

@[simp] theorem markOccupied_outer (i : Nat) (y : Blocks) :
    Blocks.outer (markOccupied i y) = Blocks.outer y := by
  simp [markOccupied]

@[simp] theorem markFault_outer (i : Nat) (y : Blocks) :
    Blocks.outer (markFault i y) = Blocks.outer y := by
  unfold markFault; (repeat' split) <;> simp

@[simp] theorem setAspect_outer (d : Desc) (a : Aspect) (g : Nat) (y : Blocks) :
    Blocks.outer (setAspect d a g y) = Blocks.outer y := by
  unfold setAspect; (repeat' split) <;> simp

@[simp] theorem ownSignal_outer (slot g : Nat) (y : Blocks) :
    Blocks.outer (ownSignal slot g y) = Blocks.outer y := by
  simp [ownSignal]

@[simp] theorem disownSignal_outer (d : Desc) (g : Nat) (y : Blocks) :
    Blocks.outer (disownSignal d g y) = Blocks.outer y := by
  simp [disownSignal]

@[simp] theorem stateReport_outer (d : Desc) (slot : Nat) (old : InstState) (v : RouteInst) (y : Blocks) :
    Blocks.outer (stateReport d slot old v y) = Blocks.outer y := by
  simp [stateReport]

@[simp] theorem changeInst_outer (d : Desc) (slot : Nat) (old v : RouteInst) (y : Blocks) :
    Blocks.outer (changeInst d slot old v y) = Blocks.outer y := by
  simp [changeInst]

@[simp] theorem judgeOpen_outer (d : Desc) (slot : Nat) (y : Blocks) :
    Blocks.outer (judgeOpen d slot y) = Blocks.outer y := by
  unfold judgeOpen; (repeat' split) <;> simp

@[simp] theorem stall_outer (d : Desc) (slot : Nat) (v : RouteInst) (c : StallCause) (y : Blocks) :
    Blocks.outer (stall d slot v c y) = Blocks.outer y := by
  unfold stall; (repeat' split) <;> simp

@[simp] theorem troubleAt_outer (d : Desc) (p : Nat) (c : StallCause) (slot : Nat) (y : Blocks) :
    Blocks.outer (troubleAt d p c slot y) = Blocks.outer y := by
  unfold troubleAt; (repeat' split) <;> simp

@[simp] theorem trouble_outer (d : Desc) (p : Nat) (c : StallCause) (y : Blocks) :
    Blocks.outer (trouble d p c y) = Blocks.outer y := by
  unfold trouble; (repeat' split) <;> simp [foldl_outer]

@[simp] theorem detectionAt_outer (d : Desc) (p : Nat) (old new : Detection) (slot : Nat) (y : Blocks) :
    Blocks.outer (detectionAt d p old new slot y) = Blocks.outer y := by
  unfold detectionAt; (repeat' split) <;> simp

@[simp] theorem instDetection_outer (d : Desc) (p : Nat) (old new : Detection) (y : Blocks) :
    Blocks.outer (instDetection d p old new y) = Blocks.outer y := by
  unfold instDetection; (repeat' split) <;> simp [foldl_outer]

@[simp] theorem endingAt_outer (d : Desc) (p : Nat) (slot : Nat) (y : Blocks) :
    Blocks.outer (endingAt d p slot y) = Blocks.outer y := by
  unfold endingAt; (repeat' split) <;> simp

@[simp] theorem instEnding_outer (d : Desc) (p : Nat) (y : Blocks) :
    Blocks.outer (instEnding d p y) = Blocks.outer y := by
  unfold instEnding; (repeat' split) <;> simp [foldl_outer]

@[simp] theorem modPt_outer (i : Nat) (f : PointState → PointState) (y : Blocks) :
    Blocks.outer (modPt i f y) = Blocks.outer y := by
  simp [modPt]

@[simp] theorem pointReport_outer (cause i : Nat) (y : Blocks) :
    Blocks.outer (pointReport cause i y) = Blocks.outer y := by
  simp [pointReport]

@[simp] theorem judgeMismatch_outer (d : Desc) (i : Nat) (y : Blocks) :
    Blocks.outer (judgeMismatch d i y) = Blocks.outer y := by
  unfold judgeMismatch; dsimp only; (repeat' split) <;> simp

@[simp] theorem present_outer (d : Desc) (i : Nat) (v : Detection) (y : Blocks) :
    Blocks.outer (present d i v y) = Blocks.outer y := by
  unfold present; dsimp only; (repeat' split) <;> simp

@[simp] theorem recompute_outer (d : Desc) (i : Nat) (y : Blocks) :
    Blocks.outer (recompute d i y) = Blocks.outer y := by
  unfold recompute; dsimp only; (repeat' split) <;> simp

@[simp] theorem driveEnding_outer (d : Desc) (i : Nat) (e : Ending) (tests : Bool) (y : Blocks) :
    Blocks.outer (driveEnding d i e tests y) = Blocks.outer y := by
  unfold driveEnding; (repeat' split) <;> simp

@[simp] theorem setOutput_outer (d : Desc) (i : Nat) (x : Option Position) (y : Blocks) :
    Blocks.outer (setOutput d i x y) = Blocks.outer y := by
  unfold setOutput; (repeat' split) <;> simp

@[simp] theorem outputOff_outer (d : Desc) (i : Nat) (y : Blocks) :
    Blocks.outer (outputOff d i y) = Blocks.outer y := by
  unfold outputOff; (repeat' split) <;> simp

@[simp] theorem freeSlot_outer (y : Blocks) :
    Blocks.outer (freeSlot y) = Blocks.outer y := by
  simp [freeSlot]

@[simp] theorem leaveDrive_outer (i : Nat) (y : Blocks) :
    Blocks.outer (leaveDrive i y) = Blocks.outer y := by
  unfold leaveDrive; (repeat' split) <;> simp

@[simp] theorem settleDrive_outer (i : Nat) (st : DriveState) (y : Blocks) :
    Blocks.outer (settleDrive i st y) = Blocks.outer y := by
  simp [settleDrive]

@[simp] theorem completeDrive_outer (d : Desc) (i : Nat) (y : Blocks) :
    Blocks.outer (completeDrive d i y) = Blocks.outer y := by
  simp [completeDrive]

@[simp] theorem withdrawDrive_outer (d : Desc) (i : Nat) (y : Blocks) :
    Blocks.outer (withdrawDrive d i y) = Blocks.outer y := by
  simp [withdrawDrive]

@[simp] theorem failLearning_outer (d : Desc) (i : Nat) (why : LearnFault) (y : Blocks) :
    Blocks.outer (failLearning d i why y) = Blocks.outer y := by
  simp [failLearning]

@[simp] theorem succeedLearning_outer (d : Desc) (i : Nat) (m : Nat) (y : Blocks) :
    Blocks.outer (succeedLearning d i m y) = Blocks.outer y := by
  simp [succeedLearning]

@[simp] theorem judgeLearning_outer (d : Desc) (i : Nat) (y : Blocks) :
    Blocks.outer (judgeLearning d i y) = Blocks.outer y := by
  unfold judgeLearning; (repeat' split) <;> simp

@[simp] theorem startLearning_outer (d : Desc) (i : Nat) (y : Blocks) :
    Blocks.outer (startLearning d i y) = Blocks.outer y := by
  unfold startLearning; dsimp only; (repeat' split) <;> simp

@[simp] theorem grantTo_outer (d : Desc) (i : Nat) (y : Blocks) :
    Blocks.outer (grantTo d i y) = Blocks.outer y := by
  unfold grantTo; dsimp only; (repeat' split) <;> simp

@[simp] theorem grantLoop_outer (d : Desc) (n : Nat) (y : Blocks) :
    Blocks.outer (grantLoop d n y) = Blocks.outer y := by
  induction n generalizing y with
  | zero => rfl
  | succ n ih => unfold grantLoop; (repeat' split) <;> simp [ih]

@[simp] theorem grantSlots_outer (d : Desc) (y : Blocks) :
    Blocks.outer (grantSlots d y) = Blocks.outer y := by
  simp [grantSlots]

@[simp] theorem reverseDrive_outer (d : Desc) (i : Nat) (x : Position) (y : Blocks) :
    Blocks.outer (reverseDrive d i x y) = Blocks.outer y := by
  unfold reverseDrive; (repeat' split) <;> simp

@[simp] theorem commandDone_outer (i : Nat) (y : Blocks) :
    Blocks.outer (commandDone i y) = Blocks.outer y := by
  simp [commandDone]

@[simp] theorem driveCommand_outer (d : Desc) (i : Nat) (x : Position) (y : Blocks) :
    Blocks.outer (driveCommand d i x y) = Blocks.outer y := by
  unfold driveCommand; dsimp only; (repeat' split) <;> simp

@[simp] theorem checkComplete_outer (d : Desc) (i : Nat) (y : Blocks) :
    Blocks.outer (checkComplete d i y) = Blocks.outer y := by
  unfold checkComplete; dsimp only; (repeat' split) <;> simp

@[simp] theorem retarget_outer (d : Desc) (i : Nat) (x : Position) (y : Blocks) :
    Blocks.outer (retarget d i x y) = Blocks.outer y := by
  unfold retarget; dsimp only; (repeat' split) <;> simp

@[simp] theorem routeLock_outer (d : Desc) (slot i : Nat) (x : Position) (y : Blocks) :
    Blocks.outer (routeLock d slot i x y) = Blocks.outer y := by
  simp [routeLock]

@[simp] theorem flankHold_outer (d : Desc) (i : Nat) (x : Position) (y : Blocks) :
    Blocks.outer (flankHold d i x y) = Blocks.outer y := by
  simp [flankHold]

@[simp] theorem routeUnlock_outer (i : Nat) (y : Blocks) :
    Blocks.outer (routeUnlock i y) = Blocks.outer y := by
  simp [routeUnlock]

@[simp] theorem flankRelease_outer (i : Nat) (y : Blocks) :
    Blocks.outer (flankRelease i y) = Blocks.outer y := by
  simp [flankRelease]

@[simp] theorem withdrawInstruction_outer (d : Desc) (i : Nat) (y : Blocks) :
    Blocks.outer (withdrawInstruction d i y) = Blocks.outer y := by
  unfold withdrawInstruction; dsimp only; (repeat' split) <;> simp

@[simp] theorem watchUnbidden_outer (d : Desc) (i : Nat) (y : Blocks) :
    Blocks.outer (watchUnbidden d i y) = Blocks.outer y := by
  unfold watchUnbidden; dsimp only; (repeat' split) <;> simp

@[simp] theorem takeCount_outer (d : Desc) (i : Nat) (y : Blocks) :
    Blocks.outer (takeCount d i y) = Blocks.outer y := by
  unfold takeCount; dsimp only; (repeat' split) <;> simp

@[simp] theorem phaseFault_outer (d : Desc) (i : Nat) (y : Blocks) :
    Blocks.outer (phaseFault d i y) = Blocks.outer y := by
  unfold phaseFault; dsimp only; (repeat' split) <;> simp

@[simp] theorem takePhase_outer (d : Desc) (i : Nat) (a b : Bool) (y : Blocks) :
    Blocks.outer (takePhase d i a b y) = Blocks.outer y := by
  unfold takePhase; dsimp only; (repeat' split) <;> simp

@[simp] theorem learnContact_outer (d : Desc) (i : Nat) (n r : Bool) (y : Blocks) :
    Blocks.outer (learnContact d i n r y) = Blocks.outer y := by
  unfold learnContact; dsimp only; (repeat' split) <;> simp

@[simp] theorem takeContacts_outer (d : Desc) (i : Nat) (n r : Bool) (y : Blocks) :
    Blocks.outer (takeContacts d i n r y) = Blocks.outer y := by
  unfold takeContacts; dsimp only; (repeat' split) <;> simp

@[simp] theorem occupyPoint_outer (d : Desc) (i : Nat) (y : Blocks) :
    Blocks.outer (occupyPoint d i y) = Blocks.outer y := by
  unfold occupyPoint; dsimp only; (repeat' split) <;> simp

@[simp] theorem pointsTakeChange_outer (d : Desc) (s : Nat) (old new : Occupancy) (y : Blocks) :
    Blocks.outer (pointsTakeChange d s old new y) = Blocks.outer y := by
  unfold pointsTakeChange; dsimp only; (repeat' split) <;> simp [foldl_outer]

@[simp] theorem strokeExpiry_outer (d : Desc) (i : Nat) (y : Blocks) :
    Blocks.outer (strokeExpiry d i y) = Blocks.outer y := by
  unfold strokeExpiry; dsimp only; (repeat' split) <;> simp

@[simp] theorem startReturn_outer (d : Desc) (i : Nat) (y : Blocks) :
    Blocks.outer (startReturn d i y) = Blocks.outer y := by
  unfold startReturn; dsimp only; (repeat' split) <;> simp

@[simp] theorem restExpiry_outer (d : Desc) (i : Nat) (y : Blocks) :
    Blocks.outer (restExpiry d i y) = Blocks.outer y := by
  unfold restExpiry; dsimp only; (repeat' split) <;> simp

@[simp] theorem settleExpiry_outer (d : Desc) (i : Nat) (y : Blocks) :
    Blocks.outer (settleExpiry d i y) = Blocks.outer y := by
  unfold settleExpiry; (repeat' split) <;> simp

@[simp] theorem learnExpiry_outer (d : Desc) (i : Nat) (y : Blocks) :
    Blocks.outer (learnExpiry d i y) = Blocks.outer y := by
  unfold learnExpiry; dsimp only; (repeat' split) <;> simp

@[simp] theorem releaseLocks_outer (d : Desc) (v : RouteInst) (i s : Nat) (y : Blocks) :
    Blocks.outer (releaseLocks d v i s y) = Blocks.outer y := by
  unfold releaseLocks; (repeat' split) <;> simp [foldl_outer]

@[simp] theorem releasedReport_outer (slot : Nat) (v : RouteInst) (m : Manner) (y : Blocks) :
    Blocks.outer (releasedReport slot v m y) = Blocks.outer y := by
  simp [releasedReport]

@[simp] theorem noticeEnded_outer (d : Desc) (v : RouteInst) (m : Manner) (y : Blocks) :
    Blocks.outer (noticeEnded d v m y) = Blocks.outer y := by
  unfold noticeEnded; (repeat' split) <;> simp

@[simp] theorem freeSequential_outer (d : Desc) (slot : Nat) (v : RouteInst) (y : Blocks) :
    Blocks.outer (freeSequential d slot v y) = Blocks.outer y := by
  simp [freeSequential]

@[simp] theorem releaseLowest_outer (d : Desc) (slot : Nat) (v : RouteInst) (s : Nat) (y : Blocks) :
    Blocks.outer (releaseLowest d slot v s y) = Blocks.outer y := by
  unfold releaseLowest; dsimp only; (repeat' split) <;> simp

@[simp] theorem sectionClears_outer (d : Desc) (slot : Nat) (v : RouteInst) (s : Nat) (y : Blocks) :
    Blocks.outer (sectionClears d slot v s y) = Blocks.outer y := by
  unfold sectionClears; (repeat' split) <;> simp

@[simp] theorem wholeNotice_outer (d : Desc) (passed : Bool) (v : RouteInst) (y : Blocks) :
    Blocks.outer (wholeNotice d passed v y) = Blocks.outer y := by
  unfold wholeNotice; (repeat' split) <;> simp

@[simp] theorem releaseWhole_outer (d : Desc) (slot : Nat) (v : RouteInst) (m : Manner) (y : Blocks) :
    Blocks.outer (releaseWhole d slot v m y) = Blocks.outer y := by
  unfold releaseWhole; (repeat' split) <;> simp [foldl_outer]

@[simp] theorem alarmEntry_outer (d : Desc) (slot : Nat) (v : RouteInst) (s : Nat) (y : Blocks) :
    Blocks.outer (alarmEntry d slot v s y) = Blocks.outer y := by
  simp [alarmEntry]

@[simp] theorem alarmIntrusion_outer (slot s : Nat) (y : Blocks) :
    Blocks.outer (alarmIntrusion slot s y) = Blocks.outer y := by
  simp [alarmIntrusion]

@[simp] theorem alarmFault_outer (d : Desc) (slot : Nat) (v : RouteInst) (s : Nat) (y : Blocks) :
    Blocks.outer (alarmFault d slot v s y) = Blocks.outer y := by
  unfold alarmFault; (repeat' split) <;> simp

@[simp] theorem changeAlarm_outer (d : Desc) (slot : Nat) (v : RouteInst) (s : Nat) (new : Occupancy) (y : Blocks) :
    Blocks.outer (changeAlarm d slot v s new y) = Blocks.outer y := by
  unfold changeAlarm; dsimp only; (repeat' split) <;> simp

@[simp] theorem instsAlarm_outer (d : Desc) (s : Nat) (new : Occupancy) (y : Blocks) :
    Blocks.outer (instsAlarm d s new y) = Blocks.outer y := by
  unfold instsAlarm; (repeat' split) <;> simp

@[simp] theorem entryAtStop_outer (d : Desc) (slot : Nat) (v : RouteInst) (s : Nat) (y : Blocks) :
    Blocks.outer (entryAtStop d slot v s y) = Blocks.outer y := by
  simp [entryAtStop]

@[simp] theorem takeSectionChange_outer (d : Desc) (slot : Nat) (v : RouteInst) (s : Nat) (new : Occupancy) (y : Blocks) :
    Blocks.outer (takeSectionChange d slot v s new y) = Blocks.outer y := by
  unfold takeSectionChange; dsimp only; (repeat' split) <;> simp

@[simp] theorem instsTakeChange_outer (d : Desc) (s : Nat) (new : Occupancy) (y : Blocks) :
    Blocks.outer (instsTakeChange d s new y) = Blocks.outer y := by
  unfold instsTakeChange; (repeat' split) <;> simp

@[simp] theorem enterCancelling_outer (d : Desc) (slot : Nat) (v : RouteInst) (y : Blocks) :
    Blocks.outer (enterCancelling d slot v y) = Blocks.outer y := by
  unfold enterCancelling; (repeat' split) <;> simp

@[simp] theorem cancelInst_outer (d : Desc) (slot : Nat) (v : RouteInst) (y : Blocks) :
    Blocks.outer ((cancelInst d slot v y).2) = Blocks.outer y := by
  unfold cancelInst; (repeat' split) <;> simp

@[simp] theorem retryInst_outer (d : Desc) (slot : Nat) (v : RouteInst) (y : Blocks) :
    Blocks.outer ((retryInst d slot v y).2) = Blocks.outer y := by
  unfold retryInst; dsimp only; (repeat' split) <;> simp [foldl_outer]

@[simp] theorem handReleaseInst_outer (d : Desc) (slot : Nat) (v : RouteInst) (y : Blocks) :
    Blocks.outer ((handReleaseInst d slot v y).2) = Blocks.outer y := by
  unfold handReleaseInst; (repeat' split) <;> simp

@[simp] theorem approachExpiry_outer (d : Desc) (slot : Nat) (y : Blocks) :
    Blocks.outer (approachExpiry d slot y) = Blocks.outer y := by
  unfold approachExpiry; (repeat' split) <;> simp

@[simp] theorem handReleaseExpiry_outer (d : Desc) (slot : Nat) (y : Blocks) :
    Blocks.outer (handReleaseExpiry d slot y) = Blocks.outer y := by
  unfold handReleaseExpiry; (repeat' split) <;> simp

@[simp] theorem putUnderTest_outer (d : Desc) (i : Nat) (y : Blocks) :
    Blocks.outer (putUnderTest d i y) = Blocks.outer y := by
  simp [putUnderTest]

@[simp] theorem startStep_outer (d : Desc) (k : StepKind) (y : Blocks) :
    Blocks.outer (startStep d k y) = Blocks.outer y := by
  unfold startStep; (repeat' split) <;> simp [foldl_outer]

@[simp] theorem latchFailed_outer (d : Desc) (i : Nat) (y : Blocks) :
    Blocks.outer (latchFailed d i y) = Blocks.outer y := by
  simp [latchFailed]

@[simp] theorem clearUnderTest_outer (d : Desc) (i : Nat) (y : Blocks) :
    Blocks.outer (clearUnderTest d i y) = Blocks.outer y := by
  simp [clearUnderTest]

@[simp] theorem clearTested_outer (y : Blocks) :
    Blocks.outer (clearTested y) = Blocks.outer y := by
  simp [clearTested]

@[simp] theorem cycleEnd_outer (d : Desc) (y : Blocks) :
    Blocks.outer (cycleEnd d y) = Blocks.outer y := by
  simp [cycleEnd]

@[simp] theorem advancePointer_outer (d : Desc) (y : Blocks) :
    Blocks.outer (advancePointer d y) = Blocks.outer y := by
  unfold advancePointer; (repeat' split) <;> simp

@[simp] theorem startProving_outer (d : Desc) (y : Blocks) :
    Blocks.outer (startProving d y) = Blocks.outer y := by
  simp [startProving]

@[simp] theorem intervalExpiry_outer (d : Desc) (y : Blocks) :
    Blocks.outer (intervalExpiry d y) = Blocks.outer y := by
  unfold intervalExpiry; (repeat' split) <;> simp

@[simp] theorem takeOutcome_outer (i : Nat) (r : TestReport) (y : Blocks) :
    Blocks.outer (takeOutcome i r y) = Blocks.outer y := by
  unfold takeOutcome; (repeat' split) <;> simp

@[simp] theorem enterQuietTests_outer (d : Desc) (y : Blocks) :
    Blocks.outer (enterQuietTests d y) = Blocks.outer y := by
  unfold enterQuietTests; dsimp only; (repeat' split) <;> simp

@[simp] theorem abandonStep_outer (d : Desc) (y : Blocks) :
    Blocks.outer (abandonStep d y) = Blocks.outer y := by
  have h : ∀ (xs : List Nat) (y : Blocks), Blocks.outer (xs.foldl (fun y i => emit (.testEnd (d.ptChannel i)) y) y) = Blocks.outer y :=
    fun xs => foldl_outer _ xs fun _ _ => by simp
  have k : ∀ (xs : List Nat) (y : Blocks), Blocks.outer (xs.foldl (fun y i => clearUnderTest d i y) y) = Blocks.outer y :=
    fun xs => foldl_outer _ xs fun _ _ => by simp
  simp [abandonStep, h, k]

@[simp] theorem stopInterval_outer (y : Blocks) :
    Blocks.outer (stopInterval y) = Blocks.outer y := by
  simp [stopInterval]

@[simp] theorem handOn_outer (d : Desc) (i : Nat) (old new : Occupancy) (y : Blocks) :
    Blocks.outer (handOn d i old new y) = Blocks.outer y := by
  simp [handOn]

@[simp] theorem changeOcc_outer (d : Desc) (i : Nat) (new : Occupancy) (t : Timer) (y : Blocks) :
    Blocks.outer (changeOcc d i new t y) = Blocks.outer y := by
  simp [changeOcc]

@[simp] theorem occupyInput_outer (d : Desc) (i : Nat) (y : Blocks) :
    Blocks.outer (occupyInput d i y) = Blocks.outer y := by
  unfold occupyInput; (repeat' split) <;> simp

@[simp] theorem clearInput_outer (d : Desc) (i : Nat) (y : Blocks) :
    Blocks.outer (clearInput d i y) = Blocks.outer y := by
  unfold clearInput; (repeat' split) <;> simp

@[simp] theorem takeLevel_outer (d : Desc) (i : Nat) (v : Level) (y : Blocks) :
    Blocks.outer (takeLevel d i v y) = Blocks.outer y := by
  unfold takeLevel; (repeat' split) <;> simp

@[simp] theorem takeFault_outer (d : Desc) (i : Nat) (y : Blocks) :
    Blocks.outer (takeFault d i y) = Blocks.outer y := by
  unfold takeFault; dsimp only; (repeat' split) <;> simp

@[simp] theorem takeReturn_outer (d : Desc) (i : Nat) (v : Level) (y : Blocks) :
    Blocks.outer (takeReturn d i v y) = Blocks.outer y := by
  unfold takeReturn; dsimp only; (repeat' split) <;> simp

@[simp] theorem clearExpiry_outer (d : Desc) (i : Nat) (y : Blocks) :
    Blocks.outer (clearExpiry d i y) = Blocks.outer y := by
  unfold clearExpiry; (repeat' split) <;> simp

@[simp] theorem judgeSettled_outer (d : Desc) (y : Blocks) :
    Blocks.outer (judgeSettled d y) = Blocks.outer y := by
  unfold judgeSettled; (repeat' split) <;> simp

@[simp] theorem claimPoint_outer (d : Desc) (slot : Nat) (y : Blocks) (c : Nat × Position) :
    Blocks.outer (claimPoint d slot y c) = Blocks.outer y := by
  unfold claimPoint; dsimp only; (repeat' split) <;> simp

@[simp] theorem claimFlank_outer (d : Desc) (y : Blocks) (c : Nat × Position × Nat) :
    Blocks.outer (claimFlank d y c) = Blocks.outer y := by
  unfold claimFlank; dsimp only; (repeat' split) <;> simp

@[simp] theorem claim_outer (d : Desc) (q : WalkRequest) (l : LinkId) (short : Option (Nat × Nat)) (slot cause : Nat) (extra : Option LinkId) (y : Blocks) :
    Blocks.outer (claim d q l short slot cause extra y) = Blocks.outer y := by
  unfold claim; dsimp only; (repeat' split) <;> simp [foldl_outer]

@[simp] theorem joinWaiting_outer (d : Desc) (q : WalkRequest) (l : LinkId) (tried : Bool) (y : Blocks) :
    Blocks.outer ((joinWaiting d q l tried y).2) = Blocks.outer y := by
  unfold joinWaiting; (repeat' split) <;> simp

@[simp] theorem dropWaiting_outer (definition : Nat) (y : Blocks) :
    Blocks.outer (dropWaiting definition y) = Blocks.outer y := by
  simp [dropWaiting]

@[simp] theorem waitReport_outer (cause : Nat) (e : WaitEntry) (last : List Byte) (y : Blocks) :
    Blocks.outer (waitReport cause e last y) = Blocks.outer y := by
  simp [waitReport]

@[simp] theorem markTried_outer (definition : Nat) (y : Blocks) :
    Blocks.outer (markTried definition y) = Blocks.outer y := by
  simp [markTried]

@[simp] theorem walkWaiting_outer (d : Desc) (y : Blocks) :
    Blocks.outer (walkWaiting d y) = Blocks.outer y := by
  unfold walkWaiting; (repeat' split) <;> simp

@[simp] theorem retryEntry_outer (i : Nat) (y : Blocks) :
    Blocks.outer (retryEntry i y) = Blocks.outer y := by
  unfold retryEntry; (repeat' split) <;> simp

@[simp] theorem walkProgramme_outer (d : Desc) (y : Blocks) :
    Blocks.outer (walkProgramme d y) = Blocks.outer y := by
  unfold walkProgramme; (repeat' split) <;> simp

@[simp] theorem lifeExpiry_outer (definition : Nat) (y : Blocks) :
    Blocks.outer (lifeExpiry definition y) = Blocks.outer y := by
  unfold lifeExpiry; (repeat' split) <;> simp

@[simp] theorem blockNow_outer (i : Nat) (y : Blocks) :
    Blocks.outer (blockNow i y) = Blocks.outer y := by
  unfold blockNow; (repeat' split) <;> simp

@[simp] theorem unblockNow_outer (d : Desc) (i : Nat) (y : Blocks) :
    Blocks.outer (unblockNow d i y) = Blocks.outer y := by
  unfold unblockNow; (repeat' split) <;> simp

@[simp] theorem learnNow_outer (d : Desc) (i : Nat) (y : Blocks) :
    Blocks.outer (learnNow d i y) = Blocks.outer y := by
  simp [learnNow]

@[simp] theorem possessNow_outer (d : Desc) (a key : Nat) (y : Blocks) :
    Blocks.outer (possessNow d a key y) = Blocks.outer y := by
  unfold possessNow; dsimp only; (repeat' split) <;> simp

@[simp] theorem freeArea_outer (d : Desc) (a : Nat) (y : Blocks) :
    Blocks.outer (freeArea d a y) = Blocks.outer y := by
  simp [freeArea]

@[simp] theorem declareNow_outer (d : Desc) (i : Nat) (trams : List Nat) (y : Blocks) :
    Blocks.outer (declareNow d i trams y) = Blocks.outer y := by
  unfold declareNow; dsimp only; (repeat' split) <;> simp [foldl_outer]

@[simp] theorem confirmNow_outer (d : Desc) (i : Nat) (y : Blocks) :
    Blocks.outer (confirmNow d i y) = Blocks.outer y := by
  simp [confirmNow]

@[simp] theorem blockRoadNow_outer (d : Desc) (i : Nat) (y : Blocks) :
    Blocks.outer (blockRoadNow d i y) = Blocks.outer y := by
  unfold blockRoadNow; (repeat' split) <;> simp

@[simp] theorem unblockRoadNow_outer (d : Desc) (i : Nat) (y : Blocks) :
    Blocks.outer (unblockRoadNow d i y) = Blocks.outer y := by
  unfold unblockRoadNow; dsimp only; (repeat' split) <;> simp

@[simp] theorem callEntry_outer (d : Desc) (i : Nat) (y : Blocks) :
    Blocks.outer (callEntry d i y) = Blocks.outer y := by
  unfold callEntry; (repeat' split) <;> simp

@[simp] theorem holdNow_outer (y : Blocks) :
    Blocks.outer (holdNow y) = Blocks.outer y := by
  unfold holdNow; (repeat' split) <;> simp

@[simp] theorem resumeNow_outer (d : Desc) (y : Blocks) :
    Blocks.outer (resumeNow d y) = Blocks.outer y := by
  unfold resumeNow; (repeat' split) <;> simp

@[simp] theorem broadcastHold_outer (_d : Desc) (y : Blocks) :
    Blocks.outer (broadcastHold _d y) = Blocks.outer y := by
  unfold broadcastHold; (repeat' split) <;> simp

@[simp] theorem judgeProgramme_outer (d : Desc) (y : Blocks) :
    Blocks.outer (judgeProgramme d y) = Blocks.outer y := by
  simp only [judgeProgramme]; (repeat' split) <;> simp

@[simp] theorem loadNow_outer (d : Desc) (items : List ProgItem) (y : Blocks) :
    Blocks.outer (loadNow d items y) = Blocks.outer y := by
  simp [loadNow]

@[simp] theorem appendNow_outer (d : Desc) (items : List ProgItem) (y : Blocks) :
    Blocks.outer (appendNow d items y) = Blocks.outer y := by
  simp [appendNow]

@[simp] theorem setClock_outer (d : Desc) (minute : Nat) (y : Blocks) :
    Blocks.outer (setClock d minute y) = Blocks.outer y := by
  simp [setClock]

@[simp] theorem broadcastTime_outer (minute : Half) (d : Desc) (y : Blocks) :
    Blocks.outer (broadcastTime minute d y) = Blocks.outer y := by
  unfold broadcastTime; (repeat' split) <;> simp

@[simp] theorem minuteExpiry_outer (d : Desc) (y : Blocks) :
    Blocks.outer (minuteExpiry d y) = Blocks.outer y := by
  unfold minuteExpiry; (repeat' split) <;> simp

@[simp] theorem clearTimerEvent_outer (d : Desc) (i : Nat) (y : Blocks) :
    Blocks.outer (clearTimerEvent d i y) = Blocks.outer y := by
  simp [clearTimerEvent]

@[simp] theorem setPending_outer (g : Nat) (y : Blocks) :
    Blocks.outer (setPending g y) = Blocks.outer y := by
  simp [setPending]

end Sys2Proof.Machine
end

