-- ==== Sys2Proof/Laws/Walk.lean ====
section
/-! SUPPORT. The walk's verdict is the one the rules' checks give: each check of the walker, and the
whole walk, answers exactly the failure that R84 to R91 name; and an instance holds and is judged as
R103 and R104 say. -/

namespace Sys2Proof.Machine

/-- The first answer of a list is that of its first element with an answer. -/
theorem findSome?_eq_some_iff_firstBad {α β : Type} (g : α → Option β) (b : β) (xs : List α) :
    xs.findSome? g = some b ↔
      ∃ n a, FirstBad (fun a => ∃ b, g a = some b) xs n ∧ xs[n]? = some a ∧ g a = some b := by
  induction xs with
  | nil => simp
  | cons x xs ih =>
    rw [List.findSome?_cons]
    cases h : g x with
    | some c =>
      constructor
      · rintro hc
        exact ⟨0, x, ⟨⟨x, rfl, c, h⟩, by simp⟩, rfl, by simpa [h] using hc⟩
      · rintro ⟨n, a, ⟨_, hall⟩, hn, ha⟩
        cases n with
        | zero =>
          have hxa : x = a := by simpa using hn
          exact h.symm.trans (hxa ▸ ha)
        | succ n => exact absurd ⟨c, h⟩ (hall x (by simp))
    | none =>
      simp only [ih]
      constructor
      · rintro ⟨n, a, ⟨hex, hall⟩, hn, ha⟩
        refine ⟨n + 1, a, ⟨by simpa using hex, ?_⟩, by simpa using hn, ha⟩
        intro e he
        rw [List.take_succ_cons, List.mem_cons] at he
        rcases he with rfl | he
        · simp [h]
        · exact hall e he
      · rintro ⟨n, a, ⟨hex, hall⟩, hn, ha⟩
        cases n with
        | zero =>
          have hxa : x = a := by simpa using hn
          rw [← hxa, h] at ha
          cases ha
        | succ n =>
          exact ⟨n, a, ⟨by simpa using hex, fun e he => hall e (by simp [he])⟩, by simpa using hn, ha⟩

/-- The first element of a list that meets a check. -/
theorem find?_eq_some_iff_firstBad {α : Type} (p : α → Bool) (a : α) (xs : List α) :
    xs.find? p = some a ↔ ∃ n, FirstBad (fun a => p a = true) xs n ∧ xs[n]? = some a := by
  rw [List.find?_eq_findSome?_guard, findSome?_eq_some_iff_firstBad]
  have h : (fun a => ∃ b, Option.guard p a = some b) = fun a => p a = true := by
    funext a; simp [Option.guard_eq_some_iff]
  rw [h]
  simp only [Option.guard_eq_some_iff]
  constructor
  · rintro ⟨n, b, hf, hb, rfl, -⟩
    exact ⟨n, hf, hb⟩
  · rintro ⟨n, hf, ha⟩
    obtain ⟨⟨e, he, hp⟩, -⟩ := id hf
    rw [ha] at he; cases he
    exact ⟨n, a, hf, ha, rfl, hp⟩

/-- `findSome?_eq_some_iff_firstBad` for an answer that carries the place. -/
theorem findSome?_zipIdx_iff_firstBad {α β : Type} (g : α → Option β) (b : β) (k : Option Nat)
    (xs : List α) :
    xs.zipIdx.findSome? (fun (a, i) => (g a).map fun b => (b, some i)) = some (b, k) ↔
      ∃ n a, FirstBad (fun a => ∃ b, g a = some b) xs n ∧ xs[n]? = some a ∧ g a = some b ∧
        k = some n := by
  have take_zip : ∀ (m n : Nat) (xs : List α), (xs.zipIdx m).take n = (xs.take n).zipIdx m := by
    intro m n xs
    induction xs generalizing m n with
    | nil => simp
    | cons x xs ih => cases n <;> simp [ih]
  rw [findSome?_eq_some_iff_firstBad]
  constructor
  · rintro ⟨n, ⟨a, i⟩, ⟨hex, hall⟩, hn, ha⟩
    simp only [List.getElem?_zipIdx, Option.map_eq_some_iff, Prod.mk.injEq, Nat.zero_add] at hn
    obtain ⟨a', hn, rfl, rfl⟩ := hn
    simp only [Option.map_eq_some_iff, Prod.mk.injEq] at ha
    obtain ⟨b', hb, rfl, hk⟩ := ha
    refine ⟨n, a', ⟨⟨a', hn, b', hb⟩, ?_⟩, hn, hb, hk.symm⟩
    rintro e he ⟨c, hc⟩
    rw [take_zip] at hall
    obtain ⟨j, hj⟩ := List.getElem?_of_mem he
    exact hall (e, j) (List.mem_of_getElem? (i := j) (by simp [List.getElem?_zipIdx, hj]))
      ⟨(c, some j), by simp [hc]⟩
  · rintro ⟨n, a, ⟨hex, hall⟩, hn, hb, rfl⟩
    have hz : xs.zipIdx[n]? = some (a, n) := by simp [List.getElem?_zipIdx, hn]
    refine ⟨n, (a, n), ⟨⟨(a, n), hz, (b, some n), by simp [hb]⟩, ?_⟩, hz, by simp [hb]⟩
    rintro ⟨e, j⟩ he ⟨⟨c, m⟩, hc⟩
    simp only [Option.map_eq_some_iff, Prod.mk.injEq] at hc
    obtain ⟨c', hc', rfl, rfl⟩ := hc
    rw [take_zip] at he
    exact hall e (by
      have := List.mem_zipIdx he
      simp only [Nat.zero_le, Nat.zero_add, true_and] at this
      rw [this.2]; exact List.getElem_mem _) ⟨c', hc'⟩

/-- An answer that carries a place. -/
theorem map_place_iff {β : Type} (o : Option β) (b : β) (k k' : Option Nat) :
    o.map (fun b => (b, k)) = some (b, k') ↔ o = some b ∧ k' = k := by
  cases o <;> simp [eq_comm (a := k)]

/-- `findSome?_eq_some_iff_firstBad` for an answer that carries a place of its own. -/
theorem findSome?_place_iff_firstBad {α β : Type} (g : α → Option β) (place : α → Option Nat) (b : β)
    (k : Option Nat) (xs : List α) :
    xs.findSome? (fun a => (g a).map fun b => (b, place a)) = some (b, k) ↔
      ∃ n a, FirstBad (fun a => ∃ b, g a = some b) xs n ∧ xs[n]? = some a ∧ g a = some b ∧
        k = place a := by
  have h : (fun a => ∃ c, (g a).map (fun b => (b, place a)) = some c) =
      fun a => ∃ b, g a = some b := by
    funext a
    cases g a <;> simp
  rw [findSome?_eq_some_iff_firstBad, h]
  simp only [map_place_iff]

/-! ### One check -/

/-- A check that fails first under a condition. -/
theorem ite_some_eq_some_iff {α : Type} (c : Prop) [Decidable c] (a b : α) (r : Option α) :
    (if c then some a else r) = some b ↔ (c ∧ b = a) ∨ (¬c ∧ r = some b) := by
  split <;> simp_all [eq_comm]

theorem some_eq_some_iff {α : Type} (a b : α) : some a = some b ↔ b = a := by
  rw [Option.some.injEq, eq_comm]

theorem occ_busy_iff (o : Occupancy) : o.busy = true ↔ o ≠ .clear := by cases o <;> decide

theorem checkOneSection_eq_some_iff (d : Desc) (y : Blocks) (q : WalkRequest) (i : Nat) (f : Failure) :
    checkOneSection d y q i = some f ↔ SectionFails d y q i f := by
  simp only [checkOneSection, SectionFails, ite_some_eq_some_iff, Blocks.secBusy, occ_busy_iff,
    Option.isSome_iff_ne_none, reduceCtorEq, and_false, or_false]
  grind

theorem checkOnePoint_eq_some_iff (y : Blocks) (p : Nat) (x : Position) (f : Failure) :
    checkOnePoint y p x = some f ↔ PointFails y p x f := by
  simp only [checkOnePoint, PointFails, ite_some_eq_some_iff, Option.isSome_iff_ne_none,
    reduceCtorEq, and_false, or_false]
  by_cases h1 : (y.pt p).drive = .learning <;> by_cases h2 : (y.pt p).blocked = true <;>
    by_cases h3 : (y.pt p).routeOwner = none <;> simp [h1, h2, h3, and_assoc]

theorem checkOneFlank_eq_some_iff (d : Desc) (y : Blocks) (p : Nat) (x : Position) (f : Failure) :
    checkOneFlank d y p x = some f ↔ FlankFails d y p x f := by
  simp only [checkOneFlank, FlankFails, ite_some_eq_some_iff, Blocks.secBusy, Bool.and_eq_true,
    occ_busy_iff, Option.isSome_iff_ne_none, reduceCtorEq, and_false, or_false, Bool.not_eq_true',
    ne_eq]
  grind

theorem checkOrigin_eq_some_iff (y : Blocks) (q : WalkRequest) (r : Nat) (f : Failure) :
    checkOrigin y q r = some f ↔ OriginFails y q r f := by
  have top : ∀ e : List StackRecord, e ≠ [] →
      ((e.getLast?.map (·.tram)).getD 0 = q.tram ↔ e.getLast?.map (·.tram) = some q.tram) := by
    intro e h
    rw [List.getLast?_eq_some_getLast h]; simp
  have absent : (∀ e ∈ (y.road r).stack, e.tram ≠ q.tram) ↔
      ¬∃ e ∈ (y.road r).stack, e.tram = q.tram := by simp
  unfold checkOrigin OriginFails
  dsimp only
  by_cases h1 : (y.road r).status = .idle
  · rw [if_neg (fun h => h h1)]
    by_cases h2 : (y.road r).stack = []
    · rw [if_pos (by simp [h2])]
      simp [h1, h2]
      exact eq_comm
    · have h := top _ h2
      rw [if_neg (by simpa using h2)]
      by_cases h3 : q.tram = 0 ∨ (y.road r).topTram = q.tram
      · rw [if_pos h3]
        refine ⟨fun k => by simp at k, ?_⟩
        rintro (⟨k, -⟩ | ⟨-, k, -⟩ | ⟨-, -, k, m, -⟩)
        · exact absurd h1 k
        · exact absurd k h2
        · exact (h3.elim k fun c => m (h.1 c)).elim
      · have h4 : (y.road r).stack.getLast?.map (·.tram) ≠ some q.tram :=
          fun k => h3 (.inr (h.2 k))
        have h5 : q.tram ≠ 0 := fun k => h3 (.inl k)
        rw [if_neg h3, absent]
        by_cases h6 : ∃ e ∈ (y.road r).stack, e.tram = q.tram
        · rw [if_pos (by simpa using h6), some_eq_some_iff]
          exact ⟨fun k => .inr (.inr ⟨h1, h2, h5, h4, .inl ⟨h6, k⟩⟩), by
            rintro (⟨k, -⟩ | ⟨-, k, -⟩ | ⟨-, -, -, -, ⟨-, k⟩ | ⟨k, -⟩⟩)
            · exact absurd h1 k
            · exact absurd k h2
            · exact k
            · exact absurd h6 k⟩
        · rw [if_neg (by simpa using h6), some_eq_some_iff]
          exact ⟨fun k => .inr (.inr ⟨h1, h2, h5, h4, .inr ⟨h6, k⟩⟩), by
            rintro (⟨k, -⟩ | ⟨-, k, -⟩ | ⟨-, -, -, -, ⟨k, -⟩ | ⟨-, k⟩⟩)
            · exact absurd h1 k
            · exact absurd k h2
            · exact absurd k h6
            · exact k⟩
  · rw [if_pos h1]
    simp [h1]
    exact eq_comm

/-- R88: the road in whose stack a tram stands, the lowest of them. -/
theorem roadOfTram_eq_some_iff (d : Desc) (y : Blocks) (n j : Nat) :
    roadOfTram d y n = some j ↔
      j < 24 ∧ (d.roadInUse j = true ∧ ∃ e ∈ (y.road j).stack, e.tram = n) ∧
        ∀ k, k < j → ¬(d.roadInUse k = true ∧ ∃ e ∈ (y.road k).stack, e.tram = n) := by
  rw [roadOfTram, List.find?_range_eq_some]
  simp only [Bool.and_eq_true, List.any_eq_true, beq_iff_eq, List.mem_range, Bool.not_eq_true',
    Bool.and_eq_false_iff]
  grind

/-- R128: P is the sum of B and of every record's length and gap. -/
theorem nextStart_eq_sum (g s : Nat) (xs : List Nat) :
    nextStart g s xs = s + (xs.map fun n => n + g).sum := by
  induction xs generalizing s with
  | nil => simp [nextStart]
  | cons x xs ih => simp [nextStart, ih]; omega

theorem checkDest_eq_some_iff (d : Desc) (y : Blocks) (q : WalkRequest) (r : Nat) (f : Failure) :
    checkDest d y q r = some f ↔ DestFails d y q r f := by
  have hfit : fits d y r (tramLength d y q.tram) = false ↔
      8 ≤ (y.road r).stack.length ∨ d.roadL r < d.roadB r +
        ((y.road r).stack.map fun e => e.length + d.roadG r).sum + tramLength d y q.tram := by
    have : ((fun n => n + d.roadG r) ∘ fun e : StackRecord => e.length) =
        fun e => e.length + d.roadG r := rfl
    simp only [fits, roadP, nextStart_eq_sum, RoadState.lengths, List.map_map, this,
      Bool.and_eq_false_iff, decide_eq_false_iff_not, Nat.not_lt, Nat.not_le]
  have hnone : roadOfTram d y q.tram = none ↔
      ¬∃ j, j < 24 ∧ d.roadInUse j = true ∧ ∃ e ∈ (y.road j).stack, e.tram = q.tram := by
    simp [roadOfTram]
  unfold checkDest DestFails
  dsimp only
  rw [← hfit]
  by_cases hs : (y.road r).status = .idle
  · rw [if_neg (by simp [hs])]
    by_cases h0 : q.tram = 0
    · rw [if_pos h0]
      cases fits d y r (tramLength d y q.tram)
      · simp [hs, h0]
        exact eq_comm
      · simp [hs, h0]
    · rw [if_neg h0]
      cases h : roadOfTram d y q.tram with
      | none =>
        have h1 := hnone.1 h
        have h2 : ∀ j, ¬(j < 24 ∧ d.roadInUse j = true ∧ ∃ e ∈ (y.road j).stack, e.tram = q.tram) :=
          fun j hj => h1 ⟨j, hj⟩
        cases fits d y r (tramLength d y q.tram)
        · simp only [hs, h0, h1, ne_eq, not_true, false_and, true_and, and_false, false_or,
            not_false_iff, some_eq_some_iff, Bool.false_eq_true, if_false]
          constructor
          · exact .inr
          · rintro (⟨j, hj, hh, -⟩ | h)
            · exact absurd ⟨hj, hh⟩ (h2 j)
            · exact h
        · simp only [hs, h0, h1, ne_eq, not_true, false_and, true_and, and_false, false_or,
            not_false_iff, if_true, reduceCtorEq, false_iff, or_false]
          rintro ⟨j, hj, hh, -⟩
          exact h2 j ⟨hj, hh⟩
      | some j =>
        have hj := (roadOfTram_eq_some_iff d y q.tram j).1 h
        have hu : ∀ k, (k < 24 ∧ (d.roadInUse k = true ∧ ∃ e ∈ (y.road k).stack, e.tram = q.tram) ∧
            ∀ i, i < k → ¬(d.roadInUse i = true ∧ ∃ e ∈ (y.road i).stack, e.tram = q.tram)) ↔
            j = k := fun k => by rw [← roadOfTram_eq_some_iff, h]; simp
        simp only [Option.some.injEq]
        constructor
        · rintro rfl
          exact .inr (.inl ⟨hs, h0, j, hj.1, hj.2.1, hj.2.2, rfl⟩)
        · rintro (⟨hn, -⟩ | ⟨-, -, k, h1, h2, h3, rfl⟩ | ⟨-, hn, -⟩)
          · exact absurd hs hn
          · rw [(hu k).1 ⟨h1, h2, h3⟩]
          · exact absurd ⟨h0, j, hj.1, hj.2.1⟩ hn
  · rw [if_pos hs]
    simp [hs]
    exact eq_comm

theorem checkRequest_eq_some_iff (d : Desc) (y : Blocks) (q : WalkRequest) (f : Failure) :
    checkRequest d y q = some f ↔ RequestFails d y q f := by
  have hrole : roleAgrees y q = true ↔
      ((q.origin = .setRoute ∧ ∃ l, q.requester = .link l ∧ (y.link l).role = some .desk) ∨
        (q.origin = .call ∧ ∃ l, q.requester = .link l ∧ (y.link l).role = some .calls) ∨
        (q.origin = .programme ∧ (plannerLink y).isSome = true)) := by
    unfold roleAgrees
    cases q.origin <;> cases q.requester <;> simp
  have hareas : ∀ i, (!hasBit (permittedAreas y q) (d.secArea i)) = true ↔
      ¬∃ l, (q.requester = .link l ∨ (q.requester = .programme ∧ plannerLink y = some l)) ∧
        (y.link l).areas.getLsbD (d.secArea i) = true := by
    intro i
    unfold permittedAreas permitLink hasBit
    cases q.requester <;> cases plannerLink y <;> simp
  unfold checkRequest RequestFails
  dsimp only
  rw [show [LinkId.a, .b, .c].find? (fun k => (y.link k).role == some .planner) = plannerLink y
    from rfl, ← hrole]
  cases roleAgrees y q
  · simp
    exact eq_comm
  · cases d.rtLoaded q.definition
    · simp
      exact eq_comm
    · simp only [Bool.not_true, Bool.false_eq_true, if_false, Option.map_eq_some_iff,
        find?_eq_some_iff_firstBad, hareas, not_true, false_and, true_and,
        false_or, reduceCtorEq, and_false]
      constructor
      · rintro ⟨i, ⟨n, hb, hi⟩, rfl⟩
        exact ⟨n, i, hb, hi, rfl⟩
      · rintro ⟨n, i, hb, hi, rfl⟩
        exact ⟨i, ⟨n, hb, hi⟩, rfl⟩

/-! ### The checks of a scope -/

/-- R85 to R89: check k of a walk, as the walker makes it. -/
def checkAt (d : Desc) (y : Blocks) (q : WalkRequest) (sc : Scope) : Nat → Option Fail
  | 5 => check5 d y q sc
  | 6 => check6 y (d.route q.definition)
  | 7 => check7 d y (d.route q.definition) sc
  | 8 => check8 d y sc
  | 9 => check9 y q sc
  | 10 => check10 d y q (d.route q.definition) sc
  | 11 => check11 y
  | _ => none

theorem freeSlotIndex_eq_none_iff (y : Blocks) :
    freeSlotIndex y = none ↔ ∀ slot, slot < 24 → y.inst slot ≠ none := by
  simp [freeSlotIndex, slots24]

theorem checkAt_eq_some_iff (d : Desc) (y : Blocks) (q : WalkRequest) (sc : Scope) (k : Nat)
    (f : Failure) (place : Option Nat) :
    checkAt d y q sc k = some (f, place) ↔ CheckFails d y q sc k f place := by
  unfold checkAt CheckFails
  dsimp only
  split
  · simp only [check5, findSome?_zipIdx_iff_firstBad, checkOneSection_eq_some_iff]
    simp
  · cases h : (y.sig (d.route q.definition).entrance).owner with
    | none => simp [check6, h]
    | some o =>
      simp only [check6, h, Option.isSome_some, if_true, Option.some.injEq, Prod.mk.injEq]
      simp [eq_comm (a := f), eq_comm (a := place)]
  · simp only [check7, findSome?_place_iff_firstBad, checkOnePoint_eq_some_iff, placeOf]
    simp
  · simp only [check8, findSome?_place_iff_firstBad, checkOneFlank_eq_some_iff]
    simp
  · simp only [check9, Option.bind_eq_some_iff, map_place_iff, checkOrigin_eq_some_iff]
    simp
  · simp only [check10, Option.bind_eq_some_iff, map_place_iff, checkDest_eq_some_iff]
    simp
  · simp only [check11, ← freeSlotIndex_eq_none_iff]
    cases freeSlotIndex y <;> simp [eq_comm]
  · rename_i h5 h6 h7 h8 h9 h10 h11
    simp only [reduceCtorEq, false_iff]
    rintro (⟨rfl, -⟩ | ⟨rfl, -⟩ | ⟨rfl, -⟩ | ⟨rfl, -⟩ | ⟨rfl, -⟩ | ⟨rfl, -⟩ | ⟨rfl, -⟩)
    · exact h5 rfl
    · exact h6 rfl
    · exact h7 rfl
    · exact h8 rfl
    · exact h9 rfl
    · exact h10 rfl
    · exact h11 rfl

/-- The first of checks 5 to 11 that fails. -/
theorem checkScope_eq_some_iff_first (d : Desc) (y : Blocks) (q : WalkRequest) (sc : Scope) (x : Fail) :
    checkScope d y q (d.route q.definition) sc = some x ↔
      ∃ k, checkAt d y q sc k = some x ∧ ∀ j, j < k → checkAt d y q sc j = none := by
  have first : ∀ x, checkScope d y q (d.route q.definition) sc = some x →
      ∃ k, checkAt d y q sc k = some x ∧ ∀ j, j < k → checkAt d y q sc j = none := by
    intro x hx
    have low : ∀ j, j < 5 → checkAt d y q sc j = none := by
      intro j hj
      match j, hj with
      | 0, _ | 1, _ | 2, _ | 3, _ | 4, _ => rfl
    have up : ∀ k, (∀ j, j < k → checkAt d y q sc j = none) → checkAt d y q sc k = none →
        ∀ j, j < k + 1 → checkAt d y q sc j = none := by
      intro k h hk j hj
      rcases Nat.lt_succ_iff_lt_or_eq.1 hj with h' | rfl
      · exact h j h'
      · exact hk
    have all : ∀ n k, k + n = 12 → (∀ j, j < k → checkAt d y q sc j = none) →
        ((List.range' k n).findSome? (checkAt d y q sc)) = some x →
        ∃ k, checkAt d y q sc k = some x ∧ ∀ j, j < k → checkAt d y q sc j = none := by
      intro n
      induction n with
      | zero => intro k _ _ h; simp at h
      | succ n ih =>
        intro k hk hlow h
        rw [List.range'_succ, List.findSome?_cons] at h
        cases hc : checkAt d y q sc k with
        | some z =>
          rw [hc] at h
          exact ⟨k, by rw [hc]; exact h, hlow⟩
        | none =>
          rw [hc] at h
          exact ih (k + 1) (by omega) (up k hlow hc) h
    exact all 7 5 rfl low hx
  constructor
  · exact first x
  · rintro ⟨k, hk, hlow⟩
    cases hx : checkScope d y q (d.route q.definition) sc with
    | some z =>
      obtain ⟨k', hk', hlow'⟩ := first z hx
      have : k = k' := by
        rcases Nat.lt_trichotomy k k' with h | h | h
        · rw [hlow' k h] at hk; cases hk
        · exact h
        · rw [hlow k' h] at hk'; cases hk'
      rw [← this, hk] at hk'
      exact hk'.symm
    | none =>
      have none7 : ∀ j, checkAt d y q sc j = none := by
        have h : ((List.range' 5 7).findSome? (checkAt d y q sc)) = none := hx
        rw [List.findSome?_eq_none_iff] at h
        intro j
        by_cases hj : 5 ≤ j ∧ j < 12
        · exact h j (by rw [List.mem_range'_1]; omega)
        · unfold checkAt
          split <;> first | rfl | omega
      rw [none7 k] at hk
      cases hk

/-- R84 to R89: what the walker finds in a scope is what the rules' checks say. -/
theorem checkScope_eq_some_iff (d : Desc) (y : Blocks) (q : WalkRequest) (sc : Scope) (f : Failure)
    (place : Option Nat) :
    checkScope d y q (d.route q.definition) sc = some (f, place) ↔ ScopeFails d y q sc f place := by
  rw [checkScope_eq_some_iff_first, ScopeFails]
  have h : ∀ j, checkAt d y q sc j = none ↔ ∀ f' place', ¬CheckFails d y q sc j f' place' := by
    intro j
    simp only [← checkAt_eq_some_iff]
    rcases checkAt d y q sc j with _ | ⟨f, k⟩ <;> simp
  simp only [checkAt_eq_some_iff, h]

theorem transient_iff (o : Origin) (f : Failure) : transient o f = true ↔ Transient o f := by
  unfold transient Transient
  cases f <;> cases o <;> simp

/-! ### The whole walk -/

/-- The fold of R91's choice over the intermediate signals of a list. -/
theorem foldl_best_iff (take : Option (Nat × Nat) → Nat × Nat → Option (Nat × Nat))
    (first : ∀ c, take none c = some c)
    (next : ∀ b c, take (some b) c = if b.2 < c.2 then some c else some b)
    (p : Nat) (c : Nat × Nat) (xs : List (Nat × Nat)) (best : Option (Nat × Nat)) :
    (xs.filter fun x => decide (x.2 < p)).foldl take best = some c ↔
      (best = some c ∧ ∀ b ∈ xs, b.2 < p → b.2 ≤ c.2) ∨
      ∃ before after, xs = before ++ c :: after ∧ c.2 < p ∧ (∀ a, best = some a → a.2 < c.2) ∧
        (∀ b ∈ before, b.2 < p → b.2 < c.2) ∧ ∀ b ∈ after, b.2 < p → b.2 ≤ c.2 := by
  induction xs generalizing best with
  | nil => simp
  | cons x xs ih =>
    have split : ∀ P : List (Nat × Nat) → List (Nat × Nat) → Prop,
        (∃ before after, x :: xs = before ++ c :: after ∧ P before after) ↔
          (x = c ∧ P [] xs) ∨ ∃ before after, xs = before ++ c :: after ∧ P (x :: before) after := by
      intro P
      constructor
      · rintro ⟨_ | ⟨z, before⟩, after, h, hP⟩
        · simp only [List.nil_append, List.cons.injEq] at h
          exact .inl ⟨h.1, h.2 ▸ hP⟩
        · simp only [List.cons_append, List.cons.injEq] at h
          exact .inr ⟨before, after, h.2, h.1 ▸ hP⟩
      · rintro (⟨rfl, hP⟩ | ⟨before, after, rfl, hP⟩)
        · exact ⟨[], xs, rfl, hP⟩
        · exact ⟨x :: before, after, rfl, hP⟩
    rw [split]
    by_cases hx : x.2 < p
    · rw [List.filter_cons_of_pos (by simpa using hx), List.foldl_cons, ih]
      cases best with
      | none =>
        simp only [first]
        grind
      | some b =>
        by_cases hb : b.2 < x.2
        · simp only [next, hb, if_true]
          grind
        · simp only [next, hb, if_false]
          grind
    · rw [List.filter_cons_of_neg (by simpa using hx), ih]
      grind

theorem bestInter_eq_some_iff (rt : RouteDef) (p : Nat) (c : Nat × Nat) :
    bestInter rt p = some c ↔ StopSignal rt p c := by
  unfold bestInter StopSignal
  rw [foldl_best_iff _ (fun _ => rfl) (fun _ _ => rfl)]
  simp

theorem shortens_iff (d : Desc) (q : WalkRequest) (f : Failure) (place : Option Nat) (c : Nat × Nat) :
    Shortens d q f place c ↔ (q.stopShort && transient q.origin f) = true ∧
      place.bind (bestInter (d.route q.definition)) = some c := by
  simp only [Shortens, Bool.and_eq_true, transient_iff, Option.bind_eq_some_iff,
    bestInter_eq_some_iff, and_assoc]

/-- R91: from one scope to the next one tried. -/
def ShorterWalk (d : Desc) (y : Blocks) (q : WalkRequest) (a b : Option (Nat × Nat)) : Prop :=
  ∃ f place c, ScopeFails d y q (scopeOf d (d.route q.definition) (a.map (·.2))) f place ∧
    Shortens d q f place c ∧ b = some c

/-- R91: n shorter walks lead from one scope to another. -/
def ShorterWalks (d : Desc) (y : Blocks) (q : WalkRequest) :
    Nat → Option (Nat × Nat) → Option (Nat × Nat) → Prop
  | 0, a, b => a = b
  | n + 1, a, b => ∃ m, ShorterWalk d y q a m ∧ ShorterWalks d y q n m b

theorem shorterWalks_snoc (d : Desc) (y : Blocks) (q : WalkRequest) (n : Nat)
    (a b : Option (Nat × Nat)) :
    ShorterWalks d y q (n + 1) a b ↔
      ∃ m, ShorterWalks d y q n a m ∧ ShorterWalk d y q m b := by
  induction n generalizing a with
  | zero =>
    constructor
    · rintro ⟨m, h, rfl⟩
      exact ⟨a, rfl, h⟩
    · rintro ⟨m, rfl, h⟩
      exact ⟨b, h, rfl⟩
  | succ n ih =>
    constructor
    · rintro ⟨m, h, hm⟩
      obtain ⟨k, hk, hb⟩ := (ih m).1 hm
      exact ⟨k, ⟨m, h, hk⟩, hb⟩
    · rintro ⟨k, ⟨m, h, hm⟩, hk⟩
      exact ⟨m, h, (ih m).2 ⟨k, hm, hk⟩⟩

theorem walkedAs_iff (d : Desc) (y : Blocks) (q : WalkRequest) (n : Nat) (b : Option (Nat × Nat)) :
    WalkedAs d y q n b ↔ ShorterWalks d y q n none b := by
  induction n generalizing b with
  | zero => exact eq_comm
  | succ n ih =>
    rw [shorterWalks_snoc]
    constructor
    · rintro ⟨m, f, place, c, hm, h⟩
      exact ⟨m, (ih m).1 hm, f, place, c, h⟩
    · rintro ⟨m, hm, f, place, c, h⟩
      exact ⟨m, f, place, c, (ih m).2 hm, h⟩

/-- What a scope's checks find, as the walker sees it. -/
theorem checkScope_cases (d : Desc) (y : Blocks) (q : WalkRequest) (sc : Scope) :
    (checkScope d y q (d.route q.definition) sc = none ∧ ∀ f place, ¬ScopeFails d y q sc f place) ∨
    ∃ f place, checkScope d y q (d.route q.definition) sc = some (f, place) ∧
      ∀ f' place', ScopeFails d y q sc f' place' ↔ f' = f ∧ place' = place := by
  simp only [← checkScope_eq_some_iff]
  rcases checkScope d y q (d.route q.definition) sc with _ | ⟨f, place⟩
  · exact .inl ⟨rfl, fun f place h => by cases h⟩
  · exact .inr ⟨f, place, rfl, fun f' place' => by
      rw [Option.some.injEq, Prod.mk.injEq, eq_comm (a := f), eq_comm (a := place)]⟩

/-- R91: the answer of the shorter walks: the scope that passes, or the failure of the last. -/
theorem tryScopes_iff (d : Desc) (y : Blocks) (q : WalkRequest) :
    ∀ (fuel : Nat) (a : Option (Nat × Nat)),
    (∀ short, tryScopes d y q (d.route q.definition) fuel a = .pass short ↔
      ∃ n, n ≤ fuel ∧ ShorterWalks d y q n a short ∧ ∀ f place,
        ¬ScopeFails d y q (scopeOf d (d.route q.definition) (short.map (·.2))) f place) ∧
    ∀ f, tryScopes d y q (d.route q.definition) fuel a = .fail f ↔
      ∃ n short place, n ≤ fuel ∧ ShorterWalks d y q n a short ∧
        ScopeFails d y q (scopeOf d (d.route q.definition) (short.map (·.2))) f place ∧
        (n < fuel → ∀ c, ¬Shortens d q f place c) := by
  intro fuel a
  have stuck : ∀ n b, (∀ m, ¬ShorterWalk d y q a m) → ShorterWalks d y q n a b → n = 0 ∧ b = a := by
    intro n b h hw
    cases n with
    | zero => exact ⟨rfl, hw.symm⟩
    | succ n => exact hw.elim fun m hm => absurd hm.1 (h m)
  rcases checkScope_cases d y q (scopeOf d (d.route q.definition) (a.map (·.2))) with
    ⟨hnone, hpass⟩ | ⟨f₀, place₀, hsome, honly⟩
  · have hgo : tryScopes d y q (d.route q.definition) fuel a = .pass a := by
      unfold tryScopes; rw [hnone]
    have hstay : ∀ m, ¬ShorterWalk d y q a m := fun m ⟨f, place, c, h, _⟩ => hpass f place h
    rw [hgo]
    refine ⟨fun short => ⟨?_, ?_⟩, fun f => ⟨fun h => (by cases h), ?_⟩⟩
    · rintro h; cases h
      exact ⟨0, Nat.zero_le _, rfl, hpass⟩
    · rintro ⟨n, -, hw, -⟩
      rw [(stuck n short hstay hw).2]
    · rintro ⟨n, short, place, -, hw, hf, -⟩
      rw [(stuck n short hstay hw).2] at hf
      exact absurd hf (hpass f place)
  · have hfail : ScopeFails d y q (scopeOf d (d.route q.definition) (a.map (·.2))) f₀ place₀ :=
      (honly f₀ place₀).2 ⟨rfl, rfl⟩
    by_cases hs : ∃ c, Shortens d q f₀ place₀ c
    · obtain ⟨c, hc⟩ := hs
      have hc' := (shortens_iff d q f₀ place₀ c).1 hc
      have hstep : ∀ m, ShorterWalk d y q a m ↔ m = some c := by
        intro m
        constructor
        · rintro ⟨f, place, c', h, hs, rfl⟩
          obtain ⟨rfl, rfl⟩ := (honly f place).1 h
          have := ((shortens_iff d q f place c').1 hs).2
          rw [hc'.2] at this
          exact this.symm
        · rintro rfl
          exact ⟨f₀, place₀, c, hfail, hc, rfl⟩
      cases fuel with
      | zero =>
        have hgo : tryScopes d y q (d.route q.definition) 0 a = .fail f₀ := by
          unfold tryScopes; rw [hsome]
        rw [hgo]
        refine ⟨fun short => ⟨fun h => (by cases h), ?_⟩, fun f => ⟨?_, ?_⟩⟩
        · rintro ⟨n, hn, hw, hp⟩
          obtain rfl := Nat.le_zero.1 hn
          obtain rfl : a = short := hw
          exact absurd hfail (hp f₀ place₀)
        · rintro h; cases h
          exact ⟨0, a, place₀, Nat.le_refl _, rfl, hfail, fun h => absurd h (Nat.lt_irrefl 0)⟩
        · rintro ⟨n, short, place, hn, hw, hf, -⟩
          obtain rfl := Nat.le_zero.1 hn
          obtain rfl : a = short := hw
          rw [((honly f place).1 hf).1]
      | succ fuel =>
        have hgo : tryScopes d y q (d.route q.definition) (fuel + 1) a =
            tryScopes d y q (d.route q.definition) fuel (some c) := by
          rw [tryScopes.eq_def]
          dsimp only
          rw [hsome]
          simp only [hc'.1, hc'.2, if_true]
        rw [hgo]
        have ih := tryScopes_iff d y q fuel (some c)
        refine ⟨fun short => (ih.1 short).trans ⟨?_, ?_⟩, fun f => (ih.2 f).trans ⟨?_, ?_⟩⟩
        · rintro ⟨n, hn, hw, hp⟩
          exact ⟨n + 1, Nat.succ_le_succ hn, ⟨some c, (hstep _).2 rfl, hw⟩, hp⟩
        · rintro ⟨n, hn, hw, hp⟩
          cases n with
          | zero =>
            obtain rfl : a = short := hw
            exact absurd hfail (hp f₀ place₀)
          | succ n =>
            obtain ⟨m, hm, hw⟩ := hw
            rw [(hstep m).1 hm] at hw
            exact ⟨n, Nat.le_of_succ_le_succ hn, hw, hp⟩
        · rintro ⟨n, short, place, hn, hw, hf, hl⟩
          exact ⟨n + 1, short, place, Nat.succ_le_succ hn, ⟨some c, (hstep _).2 rfl, hw⟩, hf,
            fun h => hl (Nat.lt_of_succ_lt_succ h)⟩
        · rintro ⟨n, short, place, hn, hw, hf, hl⟩
          cases n with
          | zero =>
            obtain rfl : a = short := hw
            obtain ⟨rfl, rfl⟩ := (honly f place).1 hf
            exact absurd hc (hl (Nat.succ_pos _) c)
          | succ n =>
            obtain ⟨m, hm, hw⟩ := hw
            rw [(hstep m).1 hm] at hw
            exact ⟨n, short, place, Nat.le_of_succ_le_succ hn, hw, hf,
              fun h => hl (Nat.succ_lt_succ h)⟩
    · have hstay : ∀ m, ¬ShorterWalk d y q a m := by
        rintro m ⟨f, place, c, h, hc, -⟩
        obtain ⟨rfl, rfl⟩ := (honly f place).1 h
        exact hs ⟨c, hc⟩
      have hgo : tryScopes d y q (d.route q.definition) fuel a = .fail f₀ := by
        rw [tryScopes.eq_def]
        dsimp only
        rw [hsome]
        cases fuel with
        | zero => rfl
        | succ n =>
          dsimp only
          by_cases ht : (q.stopShort && transient q.origin f₀) = true
          · rw [if_pos ht]
            cases hb : place₀.bind (bestInter (d.route q.definition)) with
            | none => rfl
            | some c => exact absurd ⟨c, (shortens_iff d q f₀ place₀ c).2 ⟨ht, hb⟩⟩ hs
          · rw [if_neg ht]
      rw [hgo]
      refine ⟨fun short => ⟨fun h => (by cases h), ?_⟩, fun f => ⟨?_, ?_⟩⟩
      · rintro ⟨n, -, hw, hp⟩
        rw [(stuck n short hstay hw).2] at hp
        exact absurd hfail (hp f₀ place₀)
      · rintro h; cases h
        exact ⟨0, a, place₀, Nat.zero_le _, rfl, hfail, fun _ c hc => hs ⟨c, hc⟩⟩
      · rintro ⟨n, short, place, -, hw, hf, -⟩
        rw [(stuck n short hstay hw).2] at hf
        rw [((honly f place).1 hf).1]

theorem walkVerdict_pass_iff (d : Desc) (y : Blocks) (q : WalkRequest) (short : Option (Nat × Nat)) :
    walkVerdict d y q = .pass short ↔ WalkPasses d y q short := by
  unfold walkVerdict WalkPasses
  simp only [← checkRequest_eq_some_iff, walkedAs_iff]
  cases checkRequest d y q with
  | some f => simp
  | none => simp [(tryScopes_iff d y q 3 none).1 short]

theorem walkVerdict_fail_iff (d : Desc) (y : Blocks) (q : WalkRequest) (f : Failure) :
    walkVerdict d y q = .fail f ↔ WalkFails d y q f := by
  unfold walkVerdict WalkFails
  simp only [← checkRequest_eq_some_iff, walkedAs_iff]
  cases checkRequest d y q with
  | some f => simp
  | none => simp [(tryScopes_iff d y q 3 none).2 f]

/-! ### What an instance holds -/

theorem mem_heldAll_iff (d : Desc) (v : RouteInst) (p : Nat) (x : Position) :
    (p, x) ∈ heldAll d v ↔ Requires d v p x := by
  have claimed : ∀ w, (match claimedUpTo (d.route v.definition) v with
      | some k => decide (w ≤ k)
      | none => true) = true ↔ ClaimedFlank (d.route v.definition) v w := by
    intro w
    unfold ClaimedFlank claimedUpTo
    cases (v.shortenedAt.bind fun g =>
      ((d.route v.definition).inters.find? fun c => c.1 == g).map (·.2)) <;> simp
  simp only [heldAll, heldPoints, heldFlanks, Requires, List.mem_append, List.mem_map,
    List.mem_filter, Bool.and_eq_true, decide_eq_true_eq, List.contains_iff_mem]
  constructor
  · rintro (h | ⟨⟨p', x', w⟩, ⟨hm, h⟩, he⟩)
    · exact .inl h
    · cases he
      exact .inr ⟨w, hm, h.1, (claimed w).1 h.2⟩
  · rintro (h | ⟨w, hm, hi, hc⟩)
    · exact .inl h
    · exact .inr ⟨(p, x, w), ⟨hm, hi, (claimed w).2 hc⟩, rfl⟩

/-- R103: the position in which an instance holds a point. -/
theorem heldPos_of_holdsPoint (d : Desc) (v : RouteInst) (p : Nat) (x : Position)
    (h : HoldsPoint d v p x) : heldPos d v p = some x := by
  unfold heldPos
  cases hf : (heldAll d v).find? (fun c => c.1 == p) with
  | none =>
    rw [List.find?_eq_none] at hf
    exact absurd (beq_self_eq_true p) (hf (p, x) ((mem_heldAll_iff d v p x).2 h.1))
  | some c =>
    have hp : c.1 = p := by simpa using List.find?_some hf
    have hm := List.mem_of_find?_eq_some hf
    rw [← hp] at h
    simp only [Option.map_some, h.2 c.2 ((mem_heldAll_iff d v c.1 c.2).1 hm)]

/-- R104: the judgement of an instance in SETTING. -/
theorem mayOpen_iff (d : Desc) (y : Blocks) (v : RouteInst) :
    mayOpen d y v = true ↔ Proved d y v := by
  simp only [mayOpen, Proved, Bool.and_eq_true, List.all_eq_true, beq_iff_eq]
  constructor
  · rintro ⟨h, hs⟩
    exact ⟨fun p x hr => h (p, x) ((mem_heldAll_iff d v p x).2 hr), hs⟩
  · rintro ⟨h, hs⟩
    exact ⟨fun c hc => h c.1 c.2 ((mem_heldAll_iff d v c.1 c.2).1 hc), hs⟩

end Sys2Proof.Machine
end

