-- ==== Sys2Proof/Laws/Rules.lean ====
section
/-! SUPPORT. The questions that the blocks ask answer as the rules state them: whose turn it is (R83),
what the automatic choice takes (R144), whether a road agrees and a declaration overruns it (R129 to
R131), whether the yard is idle (R18), an area may be granted (R161) and an instance has been entered
(R102); which entry the offer takes (R150), and which bodies the reports have (R37, R122, R145, R160). -/

namespace Sys2Proof.Machine

/-- R83: a requester is ready. -/
theorem ready_iff (y : Blocks) (t : Turn) : ready y t = true ↔ Ready y t := by
  cases t with
  | waiting => simp [ready, Ready, offeredWaiting]
  | link l => simp [ready, Ready, Option.isSome_iff_ne_none]
  | programme => simp [ready, Ready, Programme.offering, and_assoc]

/-- R83: the first element that a list in rising order has of a kind is the lowest of that kind. -/
theorem find?_eq_some_iff_least {α : Type} (f : α → Bool) (key : α → Nat) (t : α) (xs : List α)
    (h : xs.Pairwise fun a b => key a < key b) :
    xs.find? f = some t ↔ t ∈ xs ∧ f t = true ∧ ∀ u ∈ xs, f u = true → key t ≤ key u := by
  induction xs with
  | nil => simp
  | cons x xs ih =>
    obtain ⟨hx, hxs⟩ := List.pairwise_cons.1 h
    rw [List.find?_cons]
    cases hf : f x with
    | true =>
      simp only [Option.some.injEq, List.mem_cons]
      constructor
      · rintro rfl
        refine ⟨.inl rfl, hf, ?_⟩
        rintro u (rfl | hu) -
        · exact Nat.le_refl _
        · exact Nat.le_of_lt (hx u hu)
      · rintro ⟨rfl | ht, -, hall⟩
        · rfl
        · exact absurd (hall x (.inl rfl) hf) (Nat.not_le.2 (hx t ht))
    | false =>
      simp only [ih hxs, List.mem_cons]
      constructor
      · rintro ⟨ht, hft, hall⟩
        refine ⟨.inr ht, hft, ?_⟩
        rintro u (rfl | hu) h
        · rw [hf] at h; cases h
        · exact hall u hu h
      · rintro ⟨rfl | ht, hft, hall⟩
        · rw [hf] at hft; cases hft
        · exact ⟨ht, hft, fun u hu => hall u (.inr hu)⟩

/-- R83: every requester stands in the rotation. -/
theorem mem_rotationAfter (r t : Turn) : t ∈ rotationAfter r := by
  rcases r with _ | (_ | _ | _) | _ <;> rcases t with _ | (_ | _ | _) | _ <;> decide

/-- R83: the requester to be granted. -/
theorem nextTurn_eq_some_iff (y : Blocks) (t : Turn) : nextTurn y = some t ↔ HasTurn y t := by
  have h : (rotationAfter y.rot).Pairwise fun a b => y.rot.after a < y.rot.after b := by
    rcases y.rot with _ | (_ | _ | _) | _ <;> decide
  rw [nextTurn, find?_eq_some_iff_least _ _ _ _ h]
  simp only [mem_rotationAfter, ready_iff, true_and, forall_const, HasTurn]

/-- R83: no requester is ready. -/
theorem nextTurn_eq_none_iff (y : Blocks) : nextTurn y = none ↔ ∀ t, ¬Ready y t := by
  simp only [nextTurn, List.find?_eq_none, ready_iff]
  exact ⟨fun h t => h t (mem_rotationAfter _ t), fun h t _ => h t⟩

/-- R128: the nominal start of a road's next record. -/
theorem roadP_eq_recordStart (d : Desc) (y : Blocks) (r : Nat) :
    roadP d y r = recordStart d y r (y.road r).stack.length := by
  rw [roadP, nextStart_eq_sum, recordStart, List.take_length, RoadState.lengths, List.map_map]
  rfl

theorem zip_startsFrom (g s m : Nat) (xs : List StackRecord) :
    xs.zip (startsFrom g s (xs.map (·.length))) = (xs.zipIdx m).map fun (e, n) =>
      (e, s + ((xs.take (n - m)).map fun e => e.length + g).sum) := by
  induction xs generalizing s m with
  | nil => rfl
  | cons x xs ih =>
    simp only [List.map_cons, startsFrom, List.zip_cons_cons, List.zipIdx_cons, Nat.sub_self,
      List.take_zero, List.map_nil, List.sum_nil, Nat.add_zero, List.cons.injEq, true_and]
    rw [ih _ (m + 1)]
    refine List.map_congr_left fun (e, n) h => ?_
    have hn := (List.mem_zipIdx h).1
    obtain ⟨k, rfl⟩ : ∃ k, n = m + 1 + k := ⟨n - (m + 1), by omega⟩
    simp only [Nat.add_sub_cancel_left, show m + 1 + k - m = k + 1 by omega, List.take_succ_cons,
      List.map_cons, List.sum_cons, Prod.mk.injEq, true_and]
    omega

/-- R128: the records of a road stand at their nominal starts. -/
theorem placed_eq (d : Desc) (y : Blocks) (r : Nat) :
    placed d y r = (y.road r).stack.zipIdx.map fun (e, n) => (e, recordStart d y r n) :=
  zip_startsFrom _ _ 0 _

theorem overlaps_eq (a b lo hi : Nat) : overlaps a b lo hi = decide (max a lo < min b hi) := by
  rw [Bool.eq_iff_iff]; simp only [overlaps, Bool.and_eq_true, decide_eq_true_eq]; omega

theorem cellViews_getElem? (d : Desc) (y : Blocks) (t lo : Nat) (recs : List (StackRecord × Nat))
    (cs : List Nat) (j : Nat) :
    (cellViews d y t recs lo cs)[j]? = cs[j]?.map fun c => ⟨c, (y.sec c).occ,
      expectation t (if j = 0 then lo else d.secOuter (cs.getD (j - 1) 0)) (d.secOuter c) recs⟩ := by
  induction cs generalizing lo j with
  | nil => simp [cellViews]
  | cons c cs ih =>
    cases j with
    | zero => simp [cellViews]
    | succ j =>
      rw [cellViews, List.getElem?_cons_succ, List.getElem?_cons_succ, ih]
      cases j <;> simp

/-- R130: the expectation of a cell. -/
theorem expectation_code (d : Desc) (y : Blocks) (r j : Nat) :
    (expectation (d.roadT r) (if j = 0 then 0 else d.secOuter ((d.roadCells r).getD (j - 1) 0))
      (d.secOuter ((d.roadCells r).getD j 0)) (placed d y r)).code = cellExpected d y r j := by
  have bne : ∀ st : RecordState, (st != .departing) = decide (st ≠ .departing) := by
    intro st; cases st <;> rfl
  simp only [expectation, cellExpected, placed_eq, overlaps_eq, bne]
  rw [apply_ite Expectation.code, apply_ite Expectation.code]
  rfl

/-- R131: the comparison, by the expectation's code. -/
theorem disagrees_code (o : Occupancy) (e : Expectation) : disagrees o e = true ↔
    o = .disturbed ∨ (o = .clear ∧ e.code = 0) ∨ (o = .occupied ∧ e.code = 1) := by
  cases o <;> cases e <;> decide

/-- R131: a road agrees. -/
theorem roadAgrees_iff (d : Desc) (y : Blocks) (r : Nat) :
    roadAgrees d y r = true ↔ RoadAgrees d y r := by
  have h : ∀ c j, (d.roadCells r)[j]? = some c → (d.roadCells r).getD j 0 = c := by
    intro c j h; simp [List.getD, h]
  simp only [roadAgrees, List.all_eq_true, List.mem_iff_getElem?, roadCellViews,
    cellViews_getElem?, RoadAgrees, CellView.bad]
  constructor
  · intro all j hj
    have hc := List.getElem?_eq_getElem hj
    have := all _ ⟨j, by rw [hc]; rfl⟩
    rw [Bool.not_eq_true', ← Bool.not_eq_true, disagrees_code, ← h _ j hc, expectation_code] at this
    exact this
  · rintro all v ⟨j, hv⟩
    obtain ⟨c, hc, rfl⟩ := Option.map_eq_some_iff.1 hv
    have := all j (List.getElem?_eq_some_iff.1 hc).1
    rw [Bool.not_eq_true', ← Bool.not_eq_true, disagrees_code, ← h _ j hc, expectation_code]
    exact this

/-- R144: the automatic choice. -/
theorem chooseRoad_iff (d : Desc) (y : Blocks) (post tram definition : Nat) :
    (∃ r, chooseRoad d y post tram = some (r, definition)) ↔ Chooses d y post tram definition := by
  have h : (fun c : Nat × Nat => (((y.road c.1).status == .idle) &&
      fits d y c.1 (tramLength d y tram)) = true) = fun c => RoadTakes d y c.1 tram := by
    funext c
    simp [RoadTakes, fits, roadP_eq_recordStart]
  unfold chooseRoad Chooses
  constructor
  · rintro ⟨r, hr⟩
    obtain ⟨k, hk⟩ := (find?_eq_some_iff_firstBad _ _ _).1 hr
    exact ⟨k, r, h ▸ hk.1, hk.2⟩
  · rintro ⟨k, r, hf, hk⟩
    exact ⟨r, (find?_eq_some_iff_firstBad _ _ _).2 ⟨k, h ▸ hf, hk⟩⟩

/-- R102: an instance has been entered. -/
theorem hasBeenEntered_iff (y : Blocks) (v : RouteInst) :
    hasBeenEntered y v = true ↔ HasEntered y v := by
  simp [hasBeenEntered, HasEntered]

theorem not_busy_iff (p : PointState) : p.busy = false ↔ p.drive = .idle ∨ p.drive = .failed := by
  unfold PointState.busy; cases p.drive <;> simp

theorem mem_pts_iff (d : Desc) (i : Nat) : i ∈ d.pts ↔ d.ptInUse i = true := by
  simp only [Desc.pts, List.mem_filter, List.mem_range, Desc.ptInUse, Bool.and_eq_true,
    decide_eq_true_eq]
  exact ⟨fun h => h.2, fun h => ⟨h.1, h⟩⟩

theorem mem_secs_iff (d : Desc) (i : Nat) : i ∈ d.secs ↔ d.secInUse i = true := by
  simp only [Desc.secs, List.mem_filter, List.mem_range, Desc.secInUse, Bool.and_eq_true,
    decide_eq_true_eq]
  exact ⟨fun h => h.2, fun h => ⟨h.1, h⟩⟩

/-- R18, R75: the yard is idle. -/
theorem yardIdle_iff (d : Desc) (y : Blocks) : yardIdle d y = true ↔ YardIdle d y := by
  simp [yardIdle, YardIdle, slots24, mem_pts_iff, not_busy_iff, and_assoc]

/-- R161: the grant condition. -/
theorem grantCondition_iff (d : Desc) (y : Blocks) (a : Nat) :
    grantCondition d y a = true ↔ GrantCondition d y a := by
  simp [grantCondition, GrantCondition, Desc.areaSecs, Desc.areaPts, Desc.ptArea, mem_pts_iff,
    mem_secs_iff, not_busy_iff, Decidable.imp_iff_not_or]

/-- R129: some record's outer end lies beyond L. -/
theorem overruns_iff (g L s : Nat) (lens : List Nat) :
    overruns g L s lens = true ↔ ∃ k, k < lens.length ∧
      L < s + ((lens.take k).map fun x => x + g).sum + lens.getD k 0 := by
  induction lens generalizing s with
  | nil => simp [overruns]
  | cons x xs ih =>
    simp only [overruns, Bool.or_eq_true, decide_eq_true_eq, ih]
    constructor
    · rintro (h | ⟨k, hk, h⟩)
      · exact ⟨0, by simp, by simpa using h⟩
      · refine ⟨k + 1, by simpa using hk, ?_⟩
        simp only [List.take_succ_cons, List.map_cons, List.sum_cons, List.getD_cons_succ]
        omega
    · rintro ⟨k, hk, h⟩
      cases k with
      | zero => exact .inl (by simpa using h)
      | succ k =>
        refine .inr ⟨k, by simpa using hk, ?_⟩
        simp only [List.take_succ_cons, List.map_cons, List.sum_cons, List.getD_cons_succ] at h
        omega

/-! ### The reports and the offer, as the statements have them -/

theorem sectionReport_eq (cause i : Nat) (old : Occupancy) (y : Blocks) :
    sectionReport cause i old y = post .sect (sectionFrame cause i old (y.sec i)).body y := rfl

theorem stateReport_eq (d : Desc) (slot : Nat) (old : InstState) (v : RouteInst) (y : Blocks) :
    stateReport d slot old v y =
      post .route (stateFrame d slot old v (y.sig (d.route v.definition).entrance).aspect).body y := by
  simp [stateReport, stateFrame, routeFrame, instCommon, routeCommon, o1, cState, RouteInst.entrance]

theorem releasedReport_eq (slot : Nat) (v : RouteInst) (m : Manner) (y : Blocks) :
    releasedReport slot v m y = post .route (routeFrame 7 slot v (b1 m.code)).body y := by
  simp [releasedReport, routeFrame, instCommon, routeCommon, o1, cReleased]

theorem moveEntry_eq {i : Nat} {e : ProgEntry} {y : Blocks} (h : y.prog.entries[i]? = some e)
    (new : EntryState) (slot : Option Nat) (o : Option Outcome) :
    moveEntry i new slot o y = post .programme (entryFrame e e.state new slot o).body
      (setEntry i { e with state := new, outcome := o } y) := by
  rw [moveEntry, h]; rfl

theorem zipIdx_places {α : Type} (p : α → Bool) (xs : List α) (m : Nat) :
    ((xs.zipIdx m).filter fun c => p c.1).map (·.2) =
      (List.range' m xs.length).filter fun j => xs[j - m]?.any p := by
  induction xs generalizing m with
  | nil => rfl
  | cons x xs ih =>
    have tail : (List.range' (m + 1) xs.length).filter (fun j => (x :: xs)[j - m]?.any p) =
        (List.range' (m + 1) xs.length).filter fun j => xs[j - (m + 1)]?.any p := by
      refine List.filter_congr fun j hj => ?_
      have := (List.mem_range'_1.1 hj).1
      rw [show j - m = (j - (m + 1)) + 1 by omega, List.getElem?_cons_succ]
    rw [List.zipIdx_cons, List.length_cons, List.range'_succ, List.filter_cons, List.filter_cons, tail,
      ← ih]
    cases h : p x <;> simp [h]

/-- R131: the cells that disagree. -/
theorem badSet_eq (d : Desc) (y : Blocks) (r : Nat) : b1 (badSet d y r) = badCells d y r := by
  have hl : ∀ (t lo : Nat) (recs : List (StackRecord × Nat)) (cs : List Nat),
      (cellViews d y t recs lo cs).length = cs.length := by
    intro t lo recs cs
    induction cs generalizing lo with
    | nil => rfl
    | cons c cs ih => simp [cellViews, ih]
  unfold badSet badCells
  rw [zipIdx_places CellView.bad, roadCellViews, hl, ← List.range_eq_range']
  congr 2
  refine List.filter_congr fun j hj => ?_
  have hc := List.getElem?_eq_getElem (List.mem_range.1 hj)
  have hd : (d.roadCells r).getD j 0 = (d.roadCells r)[j]'(List.mem_range.1 hj) := by
    simp [List.getD, hc]
  rw [Nat.sub_zero, cellViews_getElem?, hc, Bool.eq_iff_iff]
  simp only [Option.map_some, Option.any_some, CellView.bad, disagrees_code, decide_eq_true_eq, CellDisagrees, ← hd, expectation_code]

theorem roadReport_eq (d : Desc) (cause i : Nat) (last : List Byte) (y : Blocks) :
    roadReport d cause i last y = post .road (roadFrame cause d y i last).body y := by
  simp only [roadReport, roadFrame, badSet_eq, roadP_eq_recordStart, roadF, topBody] <;> rfl

/-- R150: an entry that may be offered among the first w unfinished. -/
def Goes (clock : Option Nat) (w : Nat) (es : List ProgEntry) (j : Nat) : Prop :=
  ∃ e, es[j]? = some e ∧ e.state = .called ∧ e.tried = false ∧ e.met clock = true ∧
    ((es.take j).filter fun x => !x.finished).length < w

/-- R150: the first entry that may be offered, if there is one, and no other, becomes DISPATCHED. -/
theorem dispatchFirst_spec (clock : Option Nat) (w : Nat) (es : List ProgEntry) :
    (∃ j e, Goes clock w es j ∧ (∀ i, i < j → ¬Goes clock w es i) ∧ es[j]? = some e ∧
      dispatchFirst clock w es = es.set j { e with state := .dispatched }) ∨
    ((∀ j, ¬Goes clock w es j) ∧ dispatchFirst clock w es = es) := by
  induction es generalizing w with
  | nil => exact .inr ⟨fun j ⟨e, h, _⟩ => by simp at h, rfl⟩
  | cons e rest ih =>
    have later : ∀ w', (¬Goes clock w (e :: rest) 0) →
        (∀ j, Goes clock w (e :: rest) (j + 1) ↔ Goes clock w' rest j) →
        dispatchFirst clock w (e :: rest) = e :: dispatchFirst clock w' rest →
        (∃ j x, Goes clock w (e :: rest) j ∧ (∀ i, i < j → ¬Goes clock w (e :: rest) i) ∧
          (e :: rest)[j]? = some x ∧
          dispatchFirst clock w (e :: rest) = (e :: rest).set j { x with state := .dispatched }) ∨
        ((∀ j, ¬Goes clock w (e :: rest) j) ∧ dispatchFirst clock w (e :: rest) = e :: rest) := by
      intro w' h0 hs hd
      rcases ih w' with ⟨j, x, hg, hm, hx, he⟩ | ⟨hn, he⟩
      · refine .inl ⟨j + 1, x, (hs j).2 hg, fun i hi => ?_, by simpa using hx, by simp [hd, he]⟩
        cases i with
        | zero => exact h0
        | succ i => exact fun h => hm i (by omega) ((hs i).1 h)
      · refine .inr ⟨fun j => ?_, by rw [hd, he]⟩
        cases j with
        | zero => exact h0
        | succ j => exact fun h => hn j ((hs j).1 h)
    by_cases hf : e.finished = true
    · refine later w ?_ (fun j => by simp [Goes, hf]) (by simp [dispatchFirst, hf])
      rintro ⟨x, hx, hc, _⟩
      simp only [List.getElem?_cons_zero, Option.some.injEq] at hx
      subst hx
      simp [ProgEntry.finished, hc] at hf
    · by_cases hw : w = 0
      · subst hw
        exact .inr ⟨fun j ⟨x, _, _, _, _, h⟩ => by omega, by simp [dispatchFirst, hf]⟩
      · by_cases hr : e.ready clock = true
        · refine .inl ⟨0, e, ⟨e, rfl, ?_⟩, by simp, rfl, by simp [dispatchFirst, hf, hw, hr]⟩
          simp only [ProgEntry.ready, Bool.and_eq_true, beq_iff_eq, Bool.not_eq_true'] at hr
          exact ⟨hr.1.1, hr.2, hr.1.2, by simpa using Nat.pos_of_ne_zero hw⟩
        · refine later (w - 1) ?_ (fun j => ?_) (by simp [dispatchFirst, hf, hw, hr])
          · rintro ⟨x, hx, hc, ht, hm, _⟩
            simp only [List.getElem?_cons_zero, Option.some.injEq] at hx
            subst hx
            exact hr (by simp [ProgEntry.ready, hc, ht, hm])
          · simp only [Goes, List.getElem?_cons_succ, List.take_succ_cons, List.filter_cons, hf,
              Bool.not_false, if_true, List.length_cons]
            constructor <;> rintro ⟨x, h1, h2, h3, h4, h5⟩ <;> exact ⟨x, h1, h2, h3, h4, by omega⟩

/-- R150: the offer judged in RUNNING. -/
theorem judgeOffer_offered (d : Desc) (y : Blocks) (h : y.mode = .running) :
    Offered d y.prog y.prog.entries (judgeOffer d y).prog.entries := by
  have hfree : y.prog.offering = false ↔ ∀ e ∈ y.prog.entries, e.state ≠ .dispatched := by
    simp [Programme.offering]
  unfold judgeOffer Offered
  rw [← hfree]
  by_cases hj : y.prog.hold = false ∧ y.prog.offering = false
  · rw [if_pos ⟨h, hj⟩]
    rcases dispatchFirst_spec y.prog.clock d.window y.prog.entries with
      ⟨j, e, hg, hm, he, hd⟩ | ⟨hn, hd⟩
    · refine ⟨fun k x _ hk hmk hx => ?_, fun hc => ?_⟩
      · have : j = k := by
          rcases Nat.lt_trichotomy j k with hlt | rfl | hlt
          · exact absurd hg (hmk j hlt)
          · rfl
          · exact absurd hk (hm k hlt)
        subst this
        rw [he] at hx
        cases hx
        exact hd
      · rcases hc with hc | hc
        · exact absurd hj hc
        · exact absurd hg (hc j)
    · exact ⟨fun k _ _ hk => absurd hk (hn k), fun _ => hd⟩
  · rw [if_neg fun hc => hj hc.2]
    exact ⟨fun _ _ hc => absurd hc hj, fun _ => rfl⟩

/-- R149: the auto-departures that are due. -/
theorem autoDue_iff (clock : Option Nat) (e : ProgEntry) : e.autoDue clock = true ↔
    autoCalled clock e = { e with state := .called, outcome := none } ∧ e.state = .planned := by
  simp only [ProgEntry.autoDue, Bool.and_eq_true, beq_iff_eq, autoCalled]
  constructor
  · rintro ⟨⟨⟨h1, h2⟩, h3⟩, h4⟩; exact ⟨if_pos ⟨h1, h2, h3, h4⟩, h3⟩
  · rintro ⟨h, h3⟩
    by_cases hc : e.kind = .depart ∧ e.auto = true ∧ e.state = .planned ∧ e.met clock = true
    · exact ⟨⟨⟨hc.1, hc.2.1⟩, hc.2.2.1⟩, hc.2.2.2⟩
    · rw [if_neg hc] at h
      rw [h] at h3
      cases h3

end Sys2Proof.Machine
end

