-- ==== Sys2Proof/Laws/Track.lean ====
section
/-! SUPPORT. The frame of the sections and the roads: programme, area, instance and point operations leave them as they are. -/

namespace Sys2Proof.Machine

/-- The sections and the roads, as one value. -/
def Blocks.track (y : Blocks) := (y.secs, y.roads)

theorem foldl_track {α : Type} (f : Blocks → α → Blocks) (xs : List α)
    (h : ∀ y a, Blocks.track (f y a) = Blocks.track y) (y : Blocks) :
    Blocks.track (xs.foldl f y) = Blocks.track y := by
  induction xs generalizing y with
  | nil => rfl
  | cons a xs ih => rw [List.foldl_cons, ih, h]

@[simp] theorem update_track (y : Blocks) (ctl : ModeControl) (settleWatch : Bool) (sigs : Vector SignalState 64) (pts : Vector PointState 48) (queue : List Nat) (slots : Nat) (tst : TestState) (rot : Turn) (insts : Vector (Option RouteInst) 24) (wait : List WaitEntry) (fleet : List FleetEntry) (prog : Programme) (areas : Vector AreaState 8) (links : PerLink LinkUnit) (reps : PerLink ReportUnit) (out : List FieldCmd) :
    Blocks.track { y with ctl := ctl, settleWatch := settleWatch, sigs := sigs, pts := pts, queue := queue, slots := slots, tst := tst, rot := rot, insts := insts, wait := wait, fleet := fleet, prog := prog, areas := areas, links := links, reps := reps, out := out } = Blocks.track y := rfl

@[simp] theorem setSig_track (i : Nat) (v : SignalState) (y : Blocks) :
    Blocks.track (setSig i v y) = Blocks.track y := rfl
@[simp] theorem setPt_track (i : Nat) (v : PointState) (y : Blocks) :
    Blocks.track (setPt i v y) = Blocks.track y := rfl
@[simp] theorem setInst_track (i : Nat) (v : Option RouteInst) (y : Blocks) :
    Blocks.track (setInst i v y) = Blocks.track y := rfl
@[simp] theorem setArea_track (i : Nat) (v : AreaState) (y : Blocks) :
    Blocks.track (setArea i v y) = Blocks.track y := rfl
@[simp] theorem setLink_track (l : LinkId) (v : LinkUnit) (y : Blocks) :
    Blocks.track (setLink l v y) = Blocks.track y := rfl
@[simp] theorem setRep_track (l : LinkId) (v : ReportUnit) (y : Blocks) :
    Blocks.track (setRep l v y) = Blocks.track y := rfl
@[simp] theorem emit_track (c : FieldCmd) (y : Blocks) :
    Blocks.track (emit c y) = Blocks.track y := rfl

@[simp] theorem postTo_track (l : LinkId) (f : Frame) (y : Blocks) :
    Blocks.track (postTo l f y) = Blocks.track y := by
  unfold postTo; (repeat' split) <;> simp

@[simp] theorem postAlso_track (c : ReportClass) (extra : Option LinkId) (body : List Byte) (y : Blocks) :
    Blocks.track (postAlso c extra body y) = Blocks.track y := by
  unfold postAlso; (repeat' split) <;> simp [foldl_track]

@[simp] theorem post_track (c : ReportClass) (body : List Byte) (y : Blocks) :
    Blocks.track (post c body y) = Blocks.track y := by
  simp [post]

@[simp] theorem alarm_track (code : Nat) (fields : List Byte) (y : Blocks) :
    Blocks.track (alarm code fields y) = Blocks.track y := by
  simp [alarm]

@[simp] theorem postModeAll_track (old new : Mode) (y : Blocks) :
    Blocks.track (postModeAll old new y) = Blocks.track y := by
  unfold postModeAll; (repeat' split) <;> simp [foldl_track]

@[simp] theorem judgeOffer_track (d : Desc) (y : Blocks) :
    Blocks.track (judgeOffer d y) = Blocks.track y := by
  unfold judgeOffer; (repeat' split) <;> simp

@[simp] theorem setEntry_track (i : Nat) (e : ProgEntry) (y : Blocks) :
    Blocks.track (setEntry i e y) = Blocks.track y := by
  simp [setEntry]

@[simp] theorem moveEntry_track (i : Nat) (new : EntryState) (slot : Option Nat) (o : Option Outcome) (y : Blocks) :
    Blocks.track (moveEntry i new slot o y) = Blocks.track y := by
  unfold moveEntry; (repeat' split) <;> simp

@[simp] theorem autoDepart_track (y : Blocks) :
    Blocks.track (autoDepart y) = Blocks.track y := by
  unfold autoDepart
  split
  · apply foldl_track
    intro y i
    (repeat' split) <;> simp
  · rfl

@[simp] theorem releaseEvent_track (d : Desc) (y : Blocks) :
    Blocks.track (releaseEvent d y) = Blocks.track y := by
  simp [releaseEvent]

@[simp] theorem roadNotice_track (d : Desc) (n : RoadNotice) (road tram : Nat) (y : Blocks) :
    Blocks.track (roadNotice d n road tram y) = Blocks.track y := by
  unfold roadNotice; (repeat' split) <;> simp

@[simp] theorem endedNotice_track (d : Desc) (movement : Nat) (m : Manner) (y : Blocks) :
    Blocks.track (endedNotice d movement m y) = Blocks.track y := by
  unfold endedNotice; (repeat' split) <;> simp

@[simp] theorem areaReport_track (cause a : Nat) (old new : AreaStatus) (key : Nat) (y : Blocks) :
    Blocks.track (areaReport cause a old new key y) = Blocks.track y := by
  simp [areaReport]

@[simp] theorem grantArea_track (d : Desc) (a : Nat) (y : Blocks) :
    Blocks.track (grantArea d a y) = Blocks.track y := by
  simp [grantArea]

@[simp] theorem judgeArea_track (d : Desc) (a : Nat) (y : Blocks) :
    Blocks.track (judgeArea d a y) = Blocks.track y := by
  unfold judgeArea; (repeat' split) <;> simp

@[simp] theorem setAspect_track (d : Desc) (a : Aspect) (g : Nat) (y : Blocks) :
    Blocks.track (setAspect d a g y) = Blocks.track y := by
  unfold setAspect; (repeat' split) <;> simp

@[simp] theorem ownSignal_track (slot g : Nat) (y : Blocks) :
    Blocks.track (ownSignal slot g y) = Blocks.track y := by
  simp [ownSignal]

@[simp] theorem disownSignal_track (d : Desc) (g : Nat) (y : Blocks) :
    Blocks.track (disownSignal d g y) = Blocks.track y := by
  simp [disownSignal]

@[simp] theorem stateReport_track (d : Desc) (slot : Nat) (old : InstState) (v : RouteInst) (y : Blocks) :
    Blocks.track (stateReport d slot old v y) = Blocks.track y := by
  simp [stateReport]

@[simp] theorem changeInst_track (d : Desc) (slot : Nat) (old v : RouteInst) (y : Blocks) :
    Blocks.track (changeInst d slot old v y) = Blocks.track y := by
  simp [changeInst]

@[simp] theorem judgeOpen_track (d : Desc) (slot : Nat) (y : Blocks) :
    Blocks.track (judgeOpen d slot y) = Blocks.track y := by
  unfold judgeOpen; (repeat' split) <;> simp

@[simp] theorem stall_track (d : Desc) (slot : Nat) (v : RouteInst) (c : StallCause) (y : Blocks) :
    Blocks.track (stall d slot v c y) = Blocks.track y := by
  unfold stall; (repeat' split) <;> simp

@[simp] theorem troubleAt_track (d : Desc) (p : Nat) (c : StallCause) (slot : Nat) (y : Blocks) :
    Blocks.track (troubleAt d p c slot y) = Blocks.track y := by
  unfold troubleAt; (repeat' split) <;> simp

@[simp] theorem trouble_track (d : Desc) (p : Nat) (c : StallCause) (y : Blocks) :
    Blocks.track (trouble d p c y) = Blocks.track y := by
  unfold trouble; (repeat' split) <;> simp [foldl_track]

@[simp] theorem detectionAt_track (d : Desc) (p : Nat) (old new : Detection) (slot : Nat) (y : Blocks) :
    Blocks.track (detectionAt d p old new slot y) = Blocks.track y := by
  unfold detectionAt; (repeat' split) <;> simp

@[simp] theorem instDetection_track (d : Desc) (p : Nat) (old new : Detection) (y : Blocks) :
    Blocks.track (instDetection d p old new y) = Blocks.track y := by
  unfold instDetection; (repeat' split) <;> simp [foldl_track]

@[simp] theorem endingAt_track (d : Desc) (p : Nat) (slot : Nat) (y : Blocks) :
    Blocks.track (endingAt d p slot y) = Blocks.track y := by
  unfold endingAt; (repeat' split) <;> simp

@[simp] theorem instEnding_track (d : Desc) (p : Nat) (y : Blocks) :
    Blocks.track (instEnding d p y) = Blocks.track y := by
  unfold instEnding; (repeat' split) <;> simp [foldl_track]

@[simp] theorem modPt_track (i : Nat) (f : PointState → PointState) (y : Blocks) :
    Blocks.track (modPt i f y) = Blocks.track y := by
  simp [modPt]

@[simp] theorem pointReport_track (cause i : Nat) (y : Blocks) :
    Blocks.track (pointReport cause i y) = Blocks.track y := by
  simp [pointReport]

@[simp] theorem judgeMismatch_track (d : Desc) (i : Nat) (y : Blocks) :
    Blocks.track (judgeMismatch d i y) = Blocks.track y := by
  unfold judgeMismatch; dsimp only; (repeat' split) <;> simp

@[simp] theorem present_track (d : Desc) (i : Nat) (v : Detection) (y : Blocks) :
    Blocks.track (present d i v y) = Blocks.track y := by
  unfold present; dsimp only; (repeat' split) <;> simp

@[simp] theorem recompute_track (d : Desc) (i : Nat) (y : Blocks) :
    Blocks.track (recompute d i y) = Blocks.track y := by
  unfold recompute; dsimp only; (repeat' split) <;> simp

@[simp] theorem driveEnding_track (d : Desc) (i : Nat) (e : Ending) (tests : Bool) (y : Blocks) :
    Blocks.track (driveEnding d i e tests y) = Blocks.track y := by
  unfold driveEnding; (repeat' split) <;> simp

@[simp] theorem setOutput_track (d : Desc) (i : Nat) (x : Option Position) (y : Blocks) :
    Blocks.track (setOutput d i x y) = Blocks.track y := by
  unfold setOutput; (repeat' split) <;> simp

@[simp] theorem outputOff_track (d : Desc) (i : Nat) (y : Blocks) :
    Blocks.track (outputOff d i y) = Blocks.track y := by
  unfold outputOff; (repeat' split) <;> simp

@[simp] theorem freeSlot_track (y : Blocks) :
    Blocks.track (freeSlot y) = Blocks.track y := by
  simp [freeSlot]

@[simp] theorem leaveDrive_track (i : Nat) (y : Blocks) :
    Blocks.track (leaveDrive i y) = Blocks.track y := by
  unfold leaveDrive; (repeat' split) <;> simp

@[simp] theorem settleDrive_track (i : Nat) (st : DriveState) (y : Blocks) :
    Blocks.track (settleDrive i st y) = Blocks.track y := by
  simp [settleDrive]

@[simp] theorem completeDrive_track (d : Desc) (i : Nat) (y : Blocks) :
    Blocks.track (completeDrive d i y) = Blocks.track y := by
  simp [completeDrive]

@[simp] theorem withdrawDrive_track (d : Desc) (i : Nat) (y : Blocks) :
    Blocks.track (withdrawDrive d i y) = Blocks.track y := by
  simp [withdrawDrive]

@[simp] theorem failLearning_track (d : Desc) (i : Nat) (why : LearnFault) (y : Blocks) :
    Blocks.track (failLearning d i why y) = Blocks.track y := by
  simp [failLearning]

@[simp] theorem succeedLearning_track (d : Desc) (i : Nat) (m : Nat) (y : Blocks) :
    Blocks.track (succeedLearning d i m y) = Blocks.track y := by
  simp [succeedLearning]

@[simp] theorem judgeLearning_track (d : Desc) (i : Nat) (y : Blocks) :
    Blocks.track (judgeLearning d i y) = Blocks.track y := by
  unfold judgeLearning; (repeat' split) <;> simp

@[simp] theorem startLearning_track (d : Desc) (i : Nat) (y : Blocks) :
    Blocks.track (startLearning d i y) = Blocks.track y := by
  unfold startLearning; dsimp only; (repeat' split) <;> simp

@[simp] theorem grantTo_track (d : Desc) (i : Nat) (y : Blocks) :
    Blocks.track (grantTo d i y) = Blocks.track y := by
  unfold grantTo; dsimp only; (repeat' split) <;> simp

@[simp] theorem grantLoop_track (d : Desc) (n : Nat) (y : Blocks) :
    Blocks.track (grantLoop d n y) = Blocks.track y := by
  induction n generalizing y with
  | zero => rfl
  | succ n ih => unfold grantLoop; (repeat' split) <;> simp [ih]

@[simp] theorem grantSlots_track (d : Desc) (y : Blocks) :
    Blocks.track (grantSlots d y) = Blocks.track y := by
  simp [grantSlots]

@[simp] theorem reverseDrive_track (d : Desc) (i : Nat) (x : Position) (y : Blocks) :
    Blocks.track (reverseDrive d i x y) = Blocks.track y := by
  unfold reverseDrive; (repeat' split) <;> simp

@[simp] theorem commandDone_track (i : Nat) (y : Blocks) :
    Blocks.track (commandDone i y) = Blocks.track y := by
  simp [commandDone]

@[simp] theorem driveCommand_track (d : Desc) (i : Nat) (x : Position) (y : Blocks) :
    Blocks.track (driveCommand d i x y) = Blocks.track y := by
  unfold driveCommand; dsimp only; (repeat' split) <;> simp

@[simp] theorem checkComplete_track (d : Desc) (i : Nat) (y : Blocks) :
    Blocks.track (checkComplete d i y) = Blocks.track y := by
  unfold checkComplete; dsimp only; (repeat' split) <;> simp

@[simp] theorem retarget_track (d : Desc) (i : Nat) (x : Position) (y : Blocks) :
    Blocks.track (retarget d i x y) = Blocks.track y := by
  unfold retarget; dsimp only; (repeat' split) <;> simp

@[simp] theorem routeLock_track (d : Desc) (slot i : Nat) (x : Position) (y : Blocks) :
    Blocks.track (routeLock d slot i x y) = Blocks.track y := by
  simp [routeLock]

@[simp] theorem flankHold_track (d : Desc) (i : Nat) (x : Position) (y : Blocks) :
    Blocks.track (flankHold d i x y) = Blocks.track y := by
  simp [flankHold]

@[simp] theorem routeUnlock_track (i : Nat) (y : Blocks) :
    Blocks.track (routeUnlock i y) = Blocks.track y := by
  simp [routeUnlock]

@[simp] theorem flankRelease_track (i : Nat) (y : Blocks) :
    Blocks.track (flankRelease i y) = Blocks.track y := by
  simp [flankRelease]

@[simp] theorem withdrawInstruction_track (d : Desc) (i : Nat) (y : Blocks) :
    Blocks.track (withdrawInstruction d i y) = Blocks.track y := by
  unfold withdrawInstruction; dsimp only; (repeat' split) <;> simp

@[simp] theorem watchUnbidden_track (d : Desc) (i : Nat) (y : Blocks) :
    Blocks.track (watchUnbidden d i y) = Blocks.track y := by
  unfold watchUnbidden; dsimp only; (repeat' split) <;> simp

@[simp] theorem takeCount_track (d : Desc) (i : Nat) (y : Blocks) :
    Blocks.track (takeCount d i y) = Blocks.track y := by
  unfold takeCount; dsimp only; (repeat' split) <;> simp

@[simp] theorem phaseFault_track (d : Desc) (i : Nat) (y : Blocks) :
    Blocks.track (phaseFault d i y) = Blocks.track y := by
  unfold phaseFault; dsimp only; (repeat' split) <;> simp

@[simp] theorem takePhase_track (d : Desc) (i : Nat) (a b : Bool) (y : Blocks) :
    Blocks.track (takePhase d i a b y) = Blocks.track y := by
  unfold takePhase; dsimp only; (repeat' split) <;> simp

@[simp] theorem learnContact_track (d : Desc) (i : Nat) (n r : Bool) (y : Blocks) :
    Blocks.track (learnContact d i n r y) = Blocks.track y := by
  unfold learnContact; dsimp only; (repeat' split) <;> simp

@[simp] theorem takeContacts_track (d : Desc) (i : Nat) (n r : Bool) (y : Blocks) :
    Blocks.track (takeContacts d i n r y) = Blocks.track y := by
  unfold takeContacts; dsimp only; (repeat' split) <;> simp

@[simp] theorem occupyPoint_track (d : Desc) (i : Nat) (y : Blocks) :
    Blocks.track (occupyPoint d i y) = Blocks.track y := by
  unfold occupyPoint; dsimp only; (repeat' split) <;> simp

@[simp] theorem pointsTakeChange_track (d : Desc) (s : Nat) (old new : Occupancy) (y : Blocks) :
    Blocks.track (pointsTakeChange d s old new y) = Blocks.track y := by
  unfold pointsTakeChange; dsimp only; (repeat' split) <;> simp [foldl_track]

@[simp] theorem strokeExpiry_track (d : Desc) (i : Nat) (y : Blocks) :
    Blocks.track (strokeExpiry d i y) = Blocks.track y := by
  unfold strokeExpiry; dsimp only; (repeat' split) <;> simp

@[simp] theorem startReturn_track (d : Desc) (i : Nat) (y : Blocks) :
    Blocks.track (startReturn d i y) = Blocks.track y := by
  unfold startReturn; dsimp only; (repeat' split) <;> simp

@[simp] theorem restExpiry_track (d : Desc) (i : Nat) (y : Blocks) :
    Blocks.track (restExpiry d i y) = Blocks.track y := by
  unfold restExpiry; dsimp only; (repeat' split) <;> simp

@[simp] theorem settleExpiry_track (d : Desc) (i : Nat) (y : Blocks) :
    Blocks.track (settleExpiry d i y) = Blocks.track y := by
  unfold settleExpiry; (repeat' split) <;> simp

@[simp] theorem learnExpiry_track (d : Desc) (i : Nat) (y : Blocks) :
    Blocks.track (learnExpiry d i y) = Blocks.track y := by
  unfold learnExpiry; dsimp only; (repeat' split) <;> simp

@[simp] theorem blockNow_track (i : Nat) (y : Blocks) :
    Blocks.track (blockNow i y) = Blocks.track y := by
  unfold blockNow; (repeat' split) <;> simp

@[simp] theorem unblockNow_track (d : Desc) (i : Nat) (y : Blocks) :
    Blocks.track (unblockNow d i y) = Blocks.track y := by
  unfold unblockNow; (repeat' split) <;> simp

@[simp] theorem learnNow_track (d : Desc) (i : Nat) (y : Blocks) :
    Blocks.track (learnNow d i y) = Blocks.track y := by
  simp [learnNow]

@[simp] theorem possessNow_track (d : Desc) (a key : Nat) (y : Blocks) :
    Blocks.track (possessNow d a key y) = Blocks.track y := by
  unfold possessNow; dsimp only; (repeat' split) <;> simp

@[simp] theorem freeArea_track (d : Desc) (a : Nat) (y : Blocks) :
    Blocks.track (freeArea d a y) = Blocks.track y := by
  simp [freeArea]

end Sys2Proof.Machine
end

