-- ==== Sys2Proof/WellFormed.lean ====
section
/-! DEFINITION. Which terms of `Instr` are commands that can occur: indices within Table 1 and
section 2.2, request bodies within the 120 bytes of a frame (R170), an unknown kind that Table
27 does not list. -/

namespace Sys2Proof

/-- A list body of `base` bytes and n entries of `size` bytes fits a frame (R170). -/
def bodyFits (base size n : Nat) : Bool := decide (base + size * n ≤ Config.bodyMax)

/-- The check of a command. -/
def Instr.wellFormed : Instr → Bool
  | .unknownKindFrame _ _ kind => (Machine.catRow kind).isNone
  | .loadBlock _ _ _ data => bodyFits 3 1 data.length
  | .declareRoad _ _ _ trams => bodyFits 2 2 trams.length
  | .loadFleet _ _ _ items => bodyFits 2 4 items.length
  | .loadProgramme _ _ items => bodyFits 1 10 items.length
  | .appendProgramme _ _ items => bodyFits 1 10 items.length
  | .lifeTimerExpiry definition => decide (definition < Config.numRoutes)
  | .inputOccupied input => decide (input < Config.numInputs)
  | .inputClear input => decide (input < Config.numInputs)
  | .healthFault input => decide (input < Config.numInputs)
  | .healthReturn input _ => decide (input < Config.numInputs)
  | .clearTimerExpiry sect => decide (sect < Config.numSections)
  | .approachTimerExpiry slot => decide (slot < Config.numSlots)
  | .handReleaseTimerExpiry slot => decide (slot < Config.numSlots)
  | .phaseReport channel _ _ => decide (channel < Config.numChannels)
  | .contactReport channel _ _ => decide (channel < Config.numChannels)
  | .testOutcomeReport channel _ => decide (channel < Config.numChannels)
  | .driveTimeout point => decide (point < Config.numPoints)
  | .restTimerExpiry point => decide (point < Config.numPoints)
  | .settleTimerExpiry point => decide (point < Config.numPoints)
  | .learningTimerExpiry point => decide (point < Config.numPoints)
  | .holdTimerExpiry road => decide (road < Config.numRoads)
  | .arriveTimerExpiry road => decide (road < Config.numRoads)
  | _ => true

end Sys2Proof
end

