-- ==== Sys2Proof/Tests/Slice0.lean ====
section
/-! SUPPORT. The model's own tests: the ill-formed terms that the check refuses, small single
steps from the worked examples of spec/, and, for every statement that has hypotheses, a
concrete state and operands that meet them. -/

namespace Sys2Proof.Tests

open Sys2Proof Sys2Proof.Machine

set_option Elab.async false -- one theorem at a time, so that few threads of Lean wait

/-! ### The check refuses an ill-formed term of each kind -/

set_option maxRecDepth 8000 in
theorem test_wellFormed_refuses :
    [ Instr.unknownKindFrame .a false 0x20,
      .loadBlock .a 1 0 (List.replicate 118 0), .declareRoad .a 0 0 (List.replicate 60 0),
      .loadFleet .a 0 0 (List.replicate 30 ⟨1, 800⟩),
      .loadProgramme .a 0 (List.replicate 12 ⟨1, 0, 1, 0, 0, 0, 0⟩),
      .appendProgramme .a 0 (List.replicate 12 ⟨1, 0, 1, 0, 0, 0, 0⟩),
      .lifeTimerExpiry 240, .inputOccupied 128, .inputClear 128, .healthFault 128,
      .healthReturn 128 .clear, .clearTimerExpiry 96, .approachTimerExpiry 24,
      .handReleaseTimerExpiry 24, .phaseReport 64 true true, .contactReport 64 true true,
      .testOutcomeReport 64 ⟨.pass, .current⟩, .driveTimeout 48, .restTimerExpiry 48, .settleTimerExpiry 48,
      .learningTimerExpiry 48, .holdTimerExpiry 24, .arriveTimerExpiry 24
    ].all (fun i => !i.wellFormed) = true := by decide

set_option maxRecDepth 8000 in
theorem test_wellFormed_admits :
    [ Instr.unknownKindFrame .a false 0xF0, .loadBlock .a 1 0 (List.replicate 117 0),
      .declareRoad .a 0 0 (List.replicate 59 0), .loadFleet .a 0 29 (List.replicate 29 ⟨1, 800⟩),
      .loadProgramme .a 11 (List.replicate 11 ⟨1, 0, 1, 0, 0, 0, 0⟩), .lifeTimerExpiry 239,
      .inputOccupied 127, .clearTimerExpiry 95, .phaseReport 63 true true, .driveTimeout 47,
      .holdTimerExpiry 23, .approachTimerExpiry 23, .walkGrant
    ].all (fun i => i.wellFormed) = true := by decide

/-! ### A small yard -/

/-- The cells of bytes from offset o of table t on; 255 is what an unlisted byte reads as. -/
def cells (t : Nat) : Nat → List Nat → List Host.Cell
  | _, [] => []
  | o, b :: bs =>
    if b = 255 then cells t (o + 1) bs else (descAddr t o, BitVec.ofNat 8 b) :: cells t (o + 1) bs

/-- Five sections, a point, three signals, three routes, a road, two posts and three links. -/
def yardMem : List Host.Cell :=
  cells 1 0 ([0, 0, 255, 255, 255, 0] ++ [1, 0, 255, 255, 255, 1] ++ [2, 1, 0, 255, 255, 2] ++
    [3, 1, 0, 44, 1, 3] ++ [0, 0, 255, 255, 255, 4]) ++
  cells 2 0 [1, 255, 0, 255] ++ cells 3 0 [0, 0, 1, 1, 0, 2] ++
  cells 4 0 [0, 255, 4, 255, 255, 2, 0, 1] ++ cells 4 18 [1, 0, 0] ++ cells 4 35 [0] ++
  cells 4 54 [1, 2, 0] ++
  cells 4 64 [0, 255, 255, 255, 0, 2, 0, 2] ++ cells 4 82 [0] ++ cells 4 99 [0] ++ cells 4 118 [0] ++
  cells 4 128 [1, 255, 255, 0, 255, 1, 2] ++ cells 4 146 [0] ++ cells 4 163 [0] ++ cells 4 182 [0] ++
  cells 5 0 [2, 1, 1, 3] ++ cells 5 9 [44, 1] ++
  cells 6 0 [0, 255, 255, 1, 0, 1] ++ cells 6 16 [1, 0, 2] ++
  cells 7 0 [0, 255, 255, 255, 1, 255, 255, 255, 2, 255, 255]

theorem test_yardMem_canonical : Memory.wf yardMem = true := by decide

def unit (r : Role) : LinkUnit := { role := some r, areas := 255, subscription := 255 }

def yardBlk : Blocks :=
  { Blocks.reset with
    ctl := { mode := .running }
    links := ⟨unit .desk, unit .calls, unit .planner⟩ }

/-- The yard in force, in RUNNING, its blocks changed by f. -/
def yard (f : Blocks → Blocks) : State :=
  { State.reset with desc := { mem := yardMem, inForce := true }, blk := f yardBlk }

def inMode (m : Mode) (y : Blocks) : Blocks := { y with ctl := { y.ctl with mode := m } }

/-- The yard as link A has loaded it, not yet closed. -/
def loaded : State :=
  { State.reset with
    desc := { mem := yardMem }
    blk := { Blocks.reset with
      ctl := { mode := .loading, loadingLink := some .a, idleTimer := some 5 } } }

/-- The machine after a command. -/
def after (c : Instr) (s : State) : State :=
  match exec c s with
  | .next t => t
  | .fault _ => s
  | .refused _ => s

/-- R172 as a check on data. -/
def maySend (s : State) (l : LinkId) (kind : Byte) : Bool :=
  decide ((s.blk.link l).rx ≠ .inBreak) && s.blk.addressed &&
    decide ((s.blk.link l).occupancy < 4) &&
    match catRow kind with
    | some r => !s.desc.inForce || r.permits (s.blk.link l).role
    | none => true

theorem canSend_of_maySend {s : State} {l : LinkId} {kind : Byte} (h : maySend s l kind = true) :
    CanSend s l kind := by
  simp only [maySend, Bool.and_eq_true, decide_eq_true_eq] at h
  obtain ⟨⟨⟨hb, ha⟩, ho⟩, hr⟩ := h
  refine ⟨⟨hb, ha⟩, ho, fun r hc hf => ?_⟩
  rw [hc, hf] at hr
  simpa using hr

/-- A yard whose link units and mode controller are the plain yard's takes the same requests. -/
theorem yard_sends {f : Blocks → Blocks} {l : LinkId} {kind : Byte}
    (hl : (f yardBlk).links = yardBlk.links) (hc : (f yardBlk).ctl = yardBlk.ctl)
    (h : maySend (yard id) l kind = true) : CanSend (yard f) l kind := by
  refine canSend_of_maySend (Eq.trans ?_ h)
  simp only [maySend, yard, Blocks.link, Blocks.addressed, hl, hc]
  rfl

/-! ### Single steps from the worked examples -/

/-- Section 11.7: the SET ROUTE frame of the example, its characters after ADDR. -/
def exampleChars : List Byte := [0x20, 0x06, 0x34, 0x03, 0x00, 0x23, 0x0C, 0x00, 0x74]

theorem test_example_sum : frameSum exampleChars = 0 := by decide

/-- Section 11.7: the CHECK character of the frame fills the active slot. -/
theorem test_example_request :
    ((after (.characterReceived .a 0x74) (yard fun y =>
        setLink .a { unit .desk with rx := .assemble, buf := exampleChars.dropLast } y)).blk.link
      .a).active =
      some { definition := 52, requester := .link .a, origin := .setRoute, store := true
             stopShort := true, key := 0, tram := 3107, movement := none } := by decide +kernel

/-- Section 11.7: the answer frame of the example. -/
theorem test_example_answer :
    frameChars 5 ⟨0x20, [0x02, 0x02, 0x09]⟩ =
      [0x105, 0x20, 0x03, 0x02, 0x02, 0x09, 0xD0] := by decide

/-- Section 7.4: lengths, next slot and expectations of the example road. -/
theorem test_road_geometry :
    ceilDm 3280 = 328 ∧ ceilDm 3281 = 329 ∧ ceilDm 4404 = 441 ∧
      startsFrom 30 20 [328, 295] = [20, 378] ∧ nextStart 30 20 [328, 295, 441] = 1174 ∧
      ([(0, 300), (300, 600), (600, 900), (900, 1200)].map fun (lo, hi) =>
        expectation 15 lo hi [(⟨2041, 328, .stabled⟩, 20), (⟨1507, 295, .stabled⟩, 378)]) =
        [.occ, .occ, .occ, .clear] := by decide

/-- R128, R130: the rules' own formulas on a road of one cell: starts, and what is expected under a
stabled and under a departing record. -/
theorem test_road_rules :
    let y := fun st => setRoad 0 { status := .idle, stack := [⟨7, 100, st⟩] } yardBlk
    let d := (yard id).desc
    ((List.range 2).map fun n => recordStart d (y .stabled) 0 n) = [20, 150] ∧
      cellExpected d (y .stabled) 0 0 = 0 ∧ cellExpected d (y .departing) 0 0 = 2 ∧
      cellExpected d yardBlk 0 0 = 1 := by decide +kernel

/-- R45: the four levels in the order toward reverse. -/
theorem test_phase_order :
    nextPhase false false = (true, false) ∧ nextPhase true false = (true, true) ∧
      nextPhase true true = (false, true) ∧ nextPhase false true = (false, false) := by decide

theorem test_description_valid : validate loaded.desc = none := by decide +kernel

/-- R22: a description without a DESK link is refused at table 7, record 255, reason ROLES. -/
theorem test_description_without_desk :
    validate {} = some (7, 255, 16) := by decide +kernel

theorem test_reset_not_found :
    ((after (.readArea .a 0) State.reset).blk.link .a).answers = [⟨0x09, [0x30]⟩] := by decide

/-- R72 and R181: the pending granularity stands in the STATUS answer. -/
theorem test_granularity_in_status :
    ((after (.status .a) (after (.setGranularity .a 4) (yard id))).blk.link .a).answers.map
        (·.body.drop 9) = [[], [1, 4, 0, 0, 0, 0, 0, 255, 255, 0]] := by decide +kernel

/-- Route 0 set, walked and claimed: sections 0 and 1 locked, the point driven no further, the
signal at PROCEED. -/
theorem test_route_opens :
    let s := yard fun y => setPt 0 { y.pt 0 with normalMade := true, presented := .normal
                                                 computed := .normal }
      (setSec 1 { occ := .clear } (setSec 0 { occ := .clear } y))
    let t := after .walkGrant (after (.setRoute .a 0 0 0 100 0) s)
    ((t.blk.inst 0).map (·.state)) = some .opened ∧ (t.blk.sec 1).owner = some 0 ∧
      (t.blk.pt 0).routeOwner = some 0 ∧ (t.blk.sig 0).aspect = .proceed ∧
      t.blk.out = [.aspect 0 .proceed] ∧
      (t.blk.link .a).answers = [⟨0x20, [0x00, 0x00]⟩] := by decide +kernel

/-! ### Concrete states that meet the hypotheses of the statements -/

def clearSecs (y : Blocks) : Blocks := [0, 1, 2, 3, 4].foldl (fun y i => setSec i { occ := .clear } y) y

theorem clearSecs_links (y : Blocks) : (clearSecs y).links = y.links := by simp [clearSecs]
theorem clearSecs_ctl (y : Blocks) : (clearSecs y).ctl = y.ctl := by simp [clearSecs]

/-- The yard with every section CLEAR, changed by f. -/
def clearYard (f : Blocks → Blocks) : State := yard fun y => f (clearSecs y)

/-- A request for route 0 of the yard in link A's active slot. -/
def request (stopShort : Bool) : WalkRequest :=
  { definition := 0, requester := .link .a, origin := .setRoute, store := false
    stopShort := stopShort, key := 0, tram := 100, movement := none }

def asking (q : WalkRequest) (y : Blocks) : Blocks :=
  setLink .a { unit .desk with active := some q, reserved := 1 } y

/-- The same request in both slots of link A. -/
def crowded (q : WalkRequest) (y : Blocks) : Blocks :=
  setLink .a { unit .desk with active := some q, staged := some q, reserved := 2 } y

def entry (l : LinkId) : WaitEntry :=
  { definition := 239, link := l, origin := .setRoute, stopShort := false, key := 0, tram := 7
    tried := false, life := 0 }

/-- The entry of a programme in a state. -/
def planned (st : EntryState) : ProgEntry :=
  { movement := 1, kind := .depart, tram := 5, road := 0, definition := 2, notBefore := none
    auto := false, state := st, tried := false, outcome := none }

/-- An instance of route 0 in a state, in slot 0 of the yard and owning signal 0. -/
def inst (st : InstState) (timer : Timer) : RouteInst :=
  { definition := 0, link := .a, tram := none, key := some 3, shortenedAt := none, state := st
    approachLocked := false, unreleased := [0, 1], releaseIndex := 0, timer := timer
    movement := none, stallCause := none }

def holding (v : RouteInst) (y : Blocks) : Blocks :=
  setInst 0 (some v) (setSig 0 { owner := some 0 }
    (setSec 0 { y.sec 0 with owner := some 0 } (setSec 1 { y.sec 1 with owner := some 0 } y)))

theorem holding_other (v : RouteInst) (j : Nat) (h : j ≠ 0) :
    (clearYard (holding v)).blk.inst j = none := by
  show (holding v (clearSecs yardBlk)).inst j = none
  simp [holding, Blocks.inst, setInst, tabGet_tabSet_other _ _ _ _ _ (Ne.symm h), clearSecs,
    yardBlk, Blocks.reset, tabGet_replicate]

/-- An instance that has been entered: its first section carries the mark. -/
def entered (v : RouteInst) (y : Blocks) : Blocks :=
  let z := holding v y
  setSec 0 { z.sec 0 with wasOccupied := true } z

theorem witness_IdleStepTicksTimers : State.reset.pending = [] := rfl

/-- For the three invariants that every step keeps, and what each says of the present state. -/
theorem witness_invariants :
    ∃ s t, DescCanonical s ∧ ForceMatchesMode s ∧ AnswersBounded s ∧ step s = .next t := by
  refine ⟨{ yard id with pending := [.setRoute .a 0 0 0 100 0] }, _, by unfold DescCanonical; decide,
    by unfold ForceMatchesMode; decide, fun l => ?_, rfl⟩
  cases l <;> (unfold LinkUnit.sound; decide)

/-- Link A of the yard assembling a frame. -/
def assembling (buf : List Byte) : State :=
  yard (setLink .a { unit .desk with rx := .assemble, buf := buf, gapRunning := true })

theorem witness_CharacterReception :
    ((assembling []).blk.link .a).rx = .assemble ∧ ((yard id).blk.link .a).rx = .hunt ∧
      (127 : Byte) = 127 ∧ (yard id).blk.addressed = true ∧
      (1 : Byte) = (yard id).blk.ctl.addr.setWidth 8 ∧
      ¬((2 : Byte) = 127 ∨ ((yard id).blk.addressed = true ∧
        (2 : Byte) = (yard id).blk.ctl.addr.setWidth 8)) ∧
      ((assembling []).blk.link .a).buf = [] ∧
      ((assembling [0x20]).blk.link .a).buf = [0x20] ∧ (120 : Byte).toNat ≤ 120 ∧
      120 < (121 : Byte).toNat ∧
      ((assembling [0x20, 1]).blk.link .a).buf = 0x20 :: 1 :: [] ∧
      ([] : List Byte).length < (1 : Byte).toNat ∧
      ((assembling [0x79, 0]).blk.link .a).buf = 0x79 :: 0 :: [] ∧
      frameSum (((assembling [0x79, 0]).blk.link .a).buf ++ [0]) ≠ 0 := by decide

theorem witness_CharactersSpellRequests :
    requestOf (.setRoute .a 0x34 3 0 3107 0) = some (.a, 0x20, [0x34, 3, 0, 0x23, 0x0C, 0]) ∧
      (yard id).blk.addressed = true ∧
      ((assembling exampleChars.dropLast).blk.link .a).rx = .assemble ∧
      ((assembling exampleChars.dropLast).blk.link .a).broadcast = false ∧
      ((assembling exampleChars.dropLast).blk.link .a).buf =
        0x20 :: BitVec.ofNat 8 6 :: [0x34, 3, 0, 0x23, 0x0C, 0] ∧
      frameSum (((assembling exampleChars.dropLast).blk.link .a).buf ++ [0x74]) = 0 := by decide

theorem witness_ReceptionErrorsDiscardFrame :
    ((assembling []).blk.link .a).rx = .assemble ∧
      ((assembling []).blk.link .a).gapRunning = true ∧
      ((yard id).blk.link .a).gapRunning = false := by decide

/-- Link A of the yard with n answers waiting. -/
def answering (n : Nat) : State :=
  yard (setLink .a { unit .desk with answers := List.replicate n ⟨1, []⟩ })

theorem hears_yard : Hears (yard id) .a ∧ Hears (answering 4) .a ∧ Hears (answering 3) .a := by
  unfold Hears; decide

theorem witness_UnknownKindAnswered :
    catRow 0xF0 = none ∧ ((answering 3).blk.link .a).rx ≠ .inBreak ∧
      (answering 3).blk.addressed = true ∧ ((answering 3).blk.link .a).occupancy < 4 := by decide

theorem witness_FullBufferDiscardsRequest :
    requestOf (.status .a) = some (.a, 0x01, []) ∧ Hears (answering 4) .a ∧
      ((answering 4).blk.link .a).occupancy = 4 := ⟨rfl, hears_yard.2.1, by decide⟩

/-- STATUS with one byte too many, and a CALL from the desk link. -/
theorem witness_RoleRefusesRequest :
    ((Hears (assembling [1, 1, 0]) .a ∧ ((assembling [1, 1, 0]).blk.link .a).occupancy < 4 ∧
        ((assembling [1, 1, 0]).blk.link .a).rx = .assemble ∧
        ((assembling [1, 1, 0]).blk.link .a).broadcast = false) ∧
      ((assembling [1, 1, 0]).blk.link .a).buf = 1 :: BitVec.ofNat 8 [(0 : Byte)].length :: [0] ∧
      frameSum (((assembling [1, 1, 0]).blk.link .a).buf ++ [0xFE]) = 0 ∧
      catRow 1 = some ⟨1, [], .exactly 0⟩ ∧ (LenRule.exactly 0).ok [(0 : Byte)].length = false) ∧
    requestOf (.call .a 0 0) = some (.a, 0x70, [0, 0, 0]) ∧ Hears (answering 3) .a ∧
      ((answering 3).blk.link .a).occupancy < 4 ∧ (answering 3).desc.inForce = true ∧
      catRow 0x70 = some ⟨0x70, [.calls], .exactly 3⟩ ∧
      (LenRule.exactly 3).ok [(0 : Byte), 0, 0].length = true ∧
      (CatRow.mk 0x70 [.calls] (.exactly 3)).permits ((answering 3).blk.link .a).role = false :=
  ⟨⟨⟨by unfold Hears; decide, by decide, rfl, rfl⟩, by decide, by decide, by decide, by decide⟩,
    rfl, hears_yard.2.2, by decide, rfl, by decide, by decide, by decide⟩

theorem witness_OtherModesRefuseRequest :
    requestOf (.enterQuiet .a) = some (.a, 0x79, []) ∧ runningOnly 0x79 = true ∧
      CanSend (yard (inMode .quiet)) .a 0x79 ∧
      catRow 0x79 = some ⟨0x79, [.desk], .exactly 0⟩ ∧
      (LenRule.exactly 0).ok ([] : List Byte).length = true ∧
      (yard (inMode .quiet)).blk.mode ≠ .running :=
  ⟨rfl, by decide, canSend_of_maySend (by decide), by decide, by decide, by decide⟩

theorem witness_FrameSentStartsNext :
    let s := yard (setLink .a { unit .desk with tx := .answer ⟨1, []⟩, answers := [⟨1, []⟩] })
    let t := yard (setLink .a { unit .desk with tx := .report ⟨0xC8, []⟩ })
    (Hears s .a ∧ (s.blk.link .a).tx ≠ .idle) ∧ Hears t .a ∧ (t.blk.link .a).tx ≠ .idle := by
  unfold Hears; decide

theorem witness_LineBreakAndReturnToMark :
    ((yard id).blk.link .a).rx ≠ .inBreak ∧
      ¬((yard id).blk.mode = .loading ∧ (yard id).blk.ctl.loadingLink = some .a) ∧
      ((yard (setLink .a { unit .desk with rx := .inBreak })).blk.link .a).rx = .inBreak := by
  decide

/-- The loading link, a link with 15 reports, one with 16 and one in BREAK. -/
theorem witness_AbandonedLoad :
    let full := fun n => setRep .b { queue := List.replicate n ⟨0xC8, []⟩ } loaded.blk
    loaded.blk.mode = .loading ∧ (loaded.blk.link .a).rx ≠ .inBreak ∧
      loaded.blk.ctl.loadingLink = some .a ∧ loaded.blk.ctl.idleTimer.isSome = true ∧
      ((full 15).rep .b).queue.length < 16 ∧ ¬((full 16).rep .b).queue.length < 16 ∧
      ((setLink .c { rx := .inBreak } loaded.blk).link .c).rx = .inBreak := by decide

theorem witness_StatusReturnsAndClearsFlags : CanSend (yard id) .a 0x01 :=
  canSend_of_maySend (by decide)

/-- A link that takes the request, the ends of the ranges, no description in force; and a section, a
point, an instance and a road to read, a record not in use and a free slot. -/
theorem witness_ReadsAnswerContents :
    let s := yard (holding (inst .opened none))
    (Hears s .a ∧ (s.blk.link .a).occupancy < 4 ∧ s.desc.inForce = true ∧
      State.reset.desc.inForce = false) ∧
    (¬(95 < (95 : Byte).toNat) ∧ 95 < (96 : Byte).toNat ∧ ¬(7 < (7 : Byte).toNat) ∧
      7 < (8 : Byte).toNat) ∧
    s.desc.secInUse 0 = true ∧ s.desc.secInUse 95 = false ∧ s.desc.ptInUse 0 = true ∧
      s.desc.roadInUse 0 = true ∧ s.blk.inst 0 = some (inst .opened none) ∧
      s.blk.inst 1 = none := by
  unfold Hears; decide +kernel

theorem witness_ReadSignalAnswer :
    Hears (yard id) .a ∧ ((yard id).blk.link .a).occupancy < 4 ∧
      ¬(63 < (63 : Byte).toNat) ∧ 63 < (64 : Byte).toNat ∧
      (yard id).desc.sigKind 63 = 255 ∧ (yard id).desc.sigKind 0 ≠ 255 :=
  ⟨hears_yard.1, by decide⟩

/-- An idle yard, and one that an instance keeps from being idle. -/
theorem witness_yardIdle : YardIdle (yard id).desc (yard id).blk ∧
    ¬YardIdle (yard (holding (inst .opened none))).desc (yard (holding (inst .opened none))).blk :=
  ⟨(yardIdle_iff _ _).1 (by decide +kernel),
    fun h => absurd ((yardIdle_iff _ _).2 h) (by decide +kernel)⟩

/-- With `witness_yardIdle`. -/
theorem witness_OpenLoadAccepted :
    (CanSend State.reset .a 0x10 ∧ State.reset.blk.mode = .unloaded) ∧
      (CanSend (yard id) .a 0x10 ∧ (yard id).blk.mode = .running ∧
        ((yard id).blk.link .a).role = some .desk) ∧
      (CanSend loaded .a 0x10 ∧ loaded.blk.mode = .loading ∧
        loaded.blk.ctl.loadingLink = some .a) ∧
      (CanSend loaded .b 0x10 ∧ loaded.blk.ctl.loadingLink ≠ some .b) ∧
      (CanSend (yard id) .b 0x10 ∧ ((yard id).blk.link .b).role ≠ some .desk) ∧
      CanSend (yard (holding (inst .opened none))) .a 0x10 ∧
      CanSend (yard (inMode .quiet)) .a 0x10 ∧ (yard (inMode .quiet)).blk.mode = .quiet :=
  ⟨⟨canSend_of_maySend (by decide), rfl⟩,
    ⟨canSend_of_maySend (by decide), rfl, rfl⟩,
    ⟨canSend_of_maySend (by decide), rfl, rfl⟩, ⟨canSend_of_maySend (by decide), by decide⟩,
    ⟨canSend_of_maySend (by decide), by decide⟩,
    canSend_of_maySend (by decide), canSend_of_maySend (by decide), rfl⟩

/-- The last byte of the largest table, the whole of the last table, one byte beyond a table, a
table that there is not, another link and another mode. -/
theorem witness_LoadBlockWrites :
    CanSend loaded .a 0x11 ∧ loaded.blk.mode = .loading ∧ loaded.blk.ctl.loadingLink = some .a ∧
      (15359 : Half).toNat + [(1 : Byte)].length ≤ tableSize (4 : Byte).toNat ∧
      (0 : Half).toNat + (List.replicate 24 (1 : Byte)).length ≤ tableSize (8 : Byte).toNat ∧
      ¬((15360 : Half).toNat + [(1 : Byte)].length ≤ tableSize (4 : Byte).toNat) ∧
      ¬((9 : Byte).toNat ≤ 8) ∧ (List.replicate 116 (1 : Byte)).length ≤ 116 ∧
      (CanSend loaded .b 0x11 ∧ loaded.blk.ctl.loadingLink ≠ some .b) ∧
      CanSend (yard id) .a 0x11 ∧ (yard id).blk.mode ≠ .loading :=
  ⟨canSend_of_maySend (by decide), rfl, rfl, by decide, by decide, by decide, by decide,
    by decide, ⟨canSend_of_maySend (by decide), by decide⟩, canSend_of_maySend (by decide),
    by decide⟩

/-- The yard's inputs present occupied: its sections are settled at once. With one of them clear
they are not. -/
theorem witness_CloseLoadBringsIntoForce :
    let clear : Pins := { loaded.pins with
      inputs := tabSet loaded.pins.inputs 0 { level := .clear, healthy := true } }
    (CanSend loaded .a 0x12 ∧ loaded.blk.mode = .loading ∧
      loaded.blk.ctl.loadingLink = some .a ∧ validate loaded.desc = none ∧
      loaded.desc.rtLoaded 0 = true) ∧
    (∀ i, loaded.desc.secInUse i = true →
      (tabGet loaded.pins.inputs {} (loaded.desc.secInput i)).level = .occupied) ∧
    loaded.desc.secInUse 0 = true ∧
      ¬((tabGet clear.inputs {} (loaded.desc.secInput 0)).healthy = false ∨
        (tabGet clear.inputs {} (loaded.desc.secInput 0)).level = .occupied) := by
  refine ⟨⟨canSend_of_maySend (by decide), rfl, rfl, test_description_valid, by decide⟩,
    fun i _ => ?_, by decide, by decide +kernel⟩
  simp [loaded, State.reset, Pins.reset, tabGet_replicate]

theorem witness_CloseLoadRefused :
    (CanSend { loaded with desc := {} } .a 0x12 ∧ validate {} = some (7, 255, 16)) ∧
      (CanSend loaded .b 0x12 ∧ loaded.blk.ctl.loadingLink ≠ some .b) ∧
      CanSend (yard id) .a 0x12 ∧ (yard id).blk.mode ≠ .loading :=
  ⟨⟨canSend_of_maySend (by decide), test_description_without_desk⟩,
    ⟨canSend_of_maySend (by decide), by decide⟩, canSend_of_maySend (by decide), by decide⟩

/-- With the slots as they stand, with the active one full, and with both full. -/
theorem witness_SetRouteTakesSlot :
    (CanSend (yard id) .a 0x20 ∧ (yard id).blk.mode = .running ∧ (239 : Byte).toNat ≤ 239 ∧
      (3 : Byte).toNat ≤ 3 ∧ (15 : Byte).toNat ≤ 15 ∧ (9999 : Half).toNat ≤ 9999) ∧
      ((yard id).blk.link .a).active = none ∧
      (CanSend (yard (asking (request false))) .a 0x20 ∧
        ((yard (asking (request false))).blk.link .a).staged = none) ∧
      CanSend (yard (crowded (request false))) .a 0x20 ∧
        ((yard (crowded (request false))).blk.link .a).staged = some (request false) :=
  ⟨⟨canSend_of_maySend (by decide), rfl, by decide⟩, rfl, ⟨canSend_of_maySend (by decide), rfl⟩,
    canSend_of_maySend (by decide), rfl⟩

/-- Each mode that stores or refuses; the last value in range and the first beyond it. -/
theorem witness_SetRouteStoredOutsideRunning :
    (CanSend (yard (inMode .quiet)) .a 0x20 ∧ (yard (inMode .quiet)).blk.mode = .quiet ∧
      CanSend State.reset .a 0x20 ∧ State.reset.blk.mode = .unloaded ∧
      239 < (240 : Byte).toNat ∧ 3 < (4 : Byte).toNat ∧ 15 < (16 : Byte).toNat ∧
      9999 < (10000 : Half).toNat ∧ (1 : Byte) ≠ 0 ∧ (2 : Byte).getLsbD 0 = false) ∧
    CanSend (yard (inMode .proving)) .a 0x20 ∧ (yard (inMode .proving)).blk.mode = .proving ∧
      CanSend (yard (inMode .waking)) .a 0x20 ∧ (yard (inMode .waking)).blk.mode = .waking ∧
      (1 : Byte).toNat = 1 ∧ (3 : Byte).toNat = 3 :=
  ⟨⟨canSend_of_maySend (by decide), rfl, canSend_of_maySend (by decide), rfl, by decide⟩,
    canSend_of_maySend (by decide), rfl, canSend_of_maySend (by decide), rfl, rfl, rfl⟩

/-- The yard with its sections CLEAR and a waiting entry for route 0, or a DISPATCHED entry for it. -/
def waitingFor0 (y : Blocks) : Blocks := { y with wait := [{ entry .a with definition := 0 }] }
def dispatched0 (y : Blocks) : Blocks :=
  { y with prog := { y.prog with entries := [{ planned .dispatched with definition := 0 }] } }

/-- With `nextTurn_eq_some_iff` and `walkVerdict_pass_iff`, by which these walks pass their checks: a link's turn, of the whole
route and of the route shortened at signal 2 after its first section; the waiting list's turn; the
programme's turn. -/
theorem witness_WalkGrantClaimsRoute :
    let s := clearYard (asking (request false))
    let u := yard fun y => asking (request true) (setSec 0 { occ := .clear } y)
    let w := clearYard waitingFor0
    let p := clearYard dispatched0
    (nextTurn s.blk = some (.link .a) ∧ s.blk.mode = .running ∧
      (s.blk.link .a).active = some (request false) ∧ (s.blk.link .a).answers.length < 4 ∧
      walkVerdict s.desc s.blk (request false) = .pass none ∧ s.blk.inst 0 = none ∧
      (s.desc.route 0).sections = [0, 1] ∧ (s.desc.route 0).entrance = 0) ∧
    ((u.blk.link .a).active = some (request true) ∧
      walkVerdict u.desc u.blk (request true) = .pass (some (2, 0))) ∧
    (nextTurn w.blk = some .waiting ∧
      (w.blk.wait.find? fun x => !x.tried) = some { entry .a with definition := 0 } ∧
      walkVerdict w.desc w.blk { entry .a with definition := 0 }.request = .pass none) ∧
    nextTurn p.blk = some .programme ∧
      (p.blk.prog.entries.findIdx? fun x => x.state == .dispatched) = some 0 ∧
      p.blk.prog.entries[0]? = some { planned .dispatched with definition := 0 } ∧
      (links3.find? fun k => (p.blk.link k).role == some .planner) = some .c ∧
      walkVerdict p.desc p.blk { planned .dispatched with definition := 0 }.request =
        .pass none := by decide +kernel

/-- Whose turn those walks are, as the statements have it, and a yard where no requester is ready. -/
theorem witness_HasTurn :
    HasTurn (clearYard (asking (request false))).blk (.link .a) ∧
      HasTurn (clearYard waitingFor0).blk .waiting ∧
      HasTurn (clearYard dispatched0).blk .programme ∧ ∀ u, ¬Ready (yard id).blk u := by
  refine ⟨(nextTurn_eq_some_iff _ _).1 ?_, (nextTurn_eq_some_iff _ _).1 ?_,
    (nextTurn_eq_some_iff _ _).1 ?_, (nextTurn_eq_none_iff _).1 ?_⟩
  all_goals decide +kernel

/-- The first of those walks, as the statement has it. -/
theorem witness_WalkPasses :
    WalkPasses (clearYard id).desc (clearYard (asking (request false))).blk (request false) none :=
  (walkVerdict_pass_iff _ _ _ _).1 witness_WalkGrantClaimsRoute.1.2.2.2.2.1

/-- The route of those walks is sound. -/
theorem witness_RouteSound : RouteSound ((yard id).desc.route 0) :=
  have n : ((yard id).desc.route 0).origin = none ∧ ((yard id).desc.route 0).dest = none := by
    decide
  ⟨by decide, by decide, by decide, by decide, by decide, by decide, by decide,
    fun r h => by rw [n.1, n.2] at h; simp at h, by decide⟩

/-- With `nextTurn_eq_some_iff`, `walkVerdict_fail_iff` and `transient_iff`, by which these walks fail a check: a link's
transient failure, with STORE clear and set, and its permanent one; the walk outside RUNNING; the waiting list's and the programme's transient and permanent failures. -/
theorem witness_FailedWalkHasNoEffect :
    let s := yard (asking (request false))
    let k := yard (asking { request false with store := true })
    let q := yard fun y => inMode .proving (asking { request false with store := true } y)
    let w := yard waitingFor0
    let p := yard dispatched0
    let gone := yard fun y => { y with wait := [entry .a] }
    let lost := yard fun y => { y with prog := { y.prog with
      entries := [{ planned .dispatched with definition := 239 }] } }
    (nextTurn s.blk = some (.link .a) ∧ s.blk.mode = .running ∧
      (s.blk.link .a).active = some (request false) ∧ (s.blk.link .a).answers.length < 4 ∧
      walkVerdict s.desc s.blk (request false) = .fail (.conflict .sect 0 .occupied) ∧
      (request false).store = false) ∧
    (nextTurn k.blk = some (.link .a) ∧
      transient .setRoute (.conflict .sect 0 .occupied) = true ∧
      walkVerdict k.desc k.blk { request false with definition := 239 } = .fail .notFound ∧
      transient .setRoute .notFound = false) ∧
    (nextTurn q.blk = some (.link .a) ∧ q.blk.mode = .proving) ∧
    (nextTurn w.blk = some .waiting ∧
      walkVerdict w.desc w.blk { entry .a with definition := 0 }.request =
        .fail (.conflict .sect 0 .occupied)) ∧
    (nextTurn p.blk = some .programme ∧
      walkVerdict p.desc p.blk { planned .dispatched with definition := 0 }.request =
        .fail (.conflict .sect 0 .occupied)) ∧
    (nextTurn gone.blk = some .waiting ∧
      (gone.blk.wait.find? fun x => !x.tried) = some (entry .a) ∧
      walkVerdict gone.desc gone.blk (entry .a).request = .fail .notFound) ∧
    nextTurn lost.blk = some .programme ∧
      walkVerdict lost.desc lost.blk { planned .dispatched with definition := 239 }.request =
        .fail .notFound := by decide +kernel

/-- The first of those walks, as the statement has it. -/
theorem witness_WalkFails :
    WalkFails (yard id).desc (yard (asking (request false))).blk (request false)
      (.conflict .sect 0 .occupied) :=
  (walkVerdict_fail_iff _ _ _ _).1 witness_FailedWalkHasNoEffect.1.2.2.2.2.1

theorem witness_WaitingEntriesRemoved :
    let s := yard fun y => { y with wait := [entry .a] }
    s.desc.inForce = true ∧ (s.blk.wait.find? fun x => x.definition == 239) = some (entry .a) ∧
      CanSend s .a 0x24 ∧ s.blk.mode = .running ∧ ¬(239 < (239 : Byte).toNat) ∧
      239 < (240 : Byte).toNat :=
  ⟨rfl, by decide, canSend_of_maySend (by decide), rfl, by decide, by decide⟩

theorem owner_requests (st : InstState) (t : Timer) :
    let s := yard (holding (inst st t))
    CanSend s .a 0x21 ∧ CanSend s .a 0x22 ∧ CanSend s .a 0x23 ∧ s.blk.mode = .running ∧
      (0 : Byte).toNat ≤ 63 ∧ s.desc.sigInUse 0 = true ∧ (s.blk.sig 0).owner = some 0 ∧
      s.blk.inst 0 = some (inst st t) :=
  ⟨canSend_of_maySend rfl, canSend_of_maySend rfl, canSend_of_maySend rfl, rfl, by decide,
    (by decide : (yard id).desc.sigInUse 0 = true), rfl, rfl⟩

/-- A signal above 63, one not in use, and one in use that no live instance owns. -/
theorem witness_no_owner :
    63 < (64 : Byte).toNat ∧ ¬(63 < (63 : Byte).toNat) ∧ (yard id).desc.sigInUse 63 = false ∧
      (yard id).desc.sigInUse 0 = true ∧ ((yard id).blk.sig 0).owner = none ∧
      ((yard (setSig 0 { owner := some 3 })).blk.inst 3 = none) := by decide +kernel

/-- A stalled instance that has not been entered, and one that has. -/
theorem witness_HasEntered :
    ¬HasEntered (clearYard (holding (inst .stalled none))).blk (inst .stalled none) ∧
      HasEntered (yard (entered (inst .stalled none))).blk (inst .stalled none) :=
  ⟨fun h => absurd ((hasBeenEntered_iff _ _).2 h) (by decide +kernel),
    (hasBeenEntered_iff _ _).1 (by decide +kernel)⟩

theorem approach_of_route0 : ((yard id).desc.route 0).approach = some 4 := by decide

/-- Every instance of route 0 whose section 1 is unreleased holds point 0, at NORMAL. -/
theorem inst_holds (v : RouteInst) (hd : v.definition = 0) (h1 : 1 ∈ v.unreleased) :
    HoldsPoint (yard id).desc v 0 .normal := by
  have hp : ((yard id).desc.route 0).points = [(0, .normal)] := by decide
  have hf : ((yard id).desc.route 0).flanks = [] := by decide
  have hs : (yard id).desc.ptSec 0 = 1 := by decide
  refine ⟨.inl ⟨by simp [hd, hp], by simpa [hs] using h1⟩, ?_⟩
  rintro x (⟨h, -⟩ | ⟨w, h, -⟩)
  · simpa [hd, hp] using h
  · simp [hd, hf] at h

/-- The yard's route 0 with a flank, point 1 of section 4 at NORMAL, released with index 0, the
point held by an instance. -/
def flanked (v : RouteInst) : State :=
  let mem := [(descAddr 2 4, 4), (descAddr 2 6, 1), (descAddr 4 35, 1), (descAddr 4 36, 1),
    (descAddr 4 37, 0), (descAddr 4 38, 0)].foldl (fun m c => memWrite m c.1 c.2) yardMem
  { yard fun y => setPt 1 { flankCount := 1, flankPos := some .normal }
      (setPt 0 { drive := .queued, routeOwner := some 0, routePos := some .normal }
        { holding v y with queue := [0] }) with desc := { mem := mem, inForce := true } }

/-- For the locks that a release gives up: the route lock of point 0, whose drive is queued, and the
flank hold of point 1. -/
theorem witness_locks :
    let v := inst .cancelling (some 0)
    let s := flanked v
    let rt := s.desc.route 0
    (s.blk.inst 0 = some v ∧ rt.points = [(0, .normal)] ∧ s.desc.ptSec 0 = 1 ∧
      v.unreleased = [0, 1] ∧ (s.blk.pt 0).routeOwner = some 0 ∧ (s.blk.pt 0).drive = .queued) ∧
    rt.flanks = [(1, .normal, 0)] ∧ (rt.flanks.map (·.1)).Nodup ∧ v.releaseIndex ≤ 0 ∧
      v.shortenedAt = none ∧ (s.blk.pt 1).flankCount = 1 ∧
      (0, 0) ∈ v.unreleased.zipIdx v.releaseIndex := by
  decide +kernel

/-- R116: the locks given up by the whole release of that instance. -/
theorem test_whole_release :
    let t := after (.approachTimerExpiry 0) (flanked (inst .cancelling (some 0)))
    ((t.blk.pt 0).routeOwner = none ∧ (t.blk.pt 0).drive = .idle ∧ t.blk.queue = []) ∧
      (t.blk.pt 1).flankCount = 0 ∧ (t.blk.pt 1).flankPos = none := by decide +kernel

/-- With `owner_requests`, `witness_no_owner`, `witness_HasEntered` and `witness_locks`: at once in SETTING; over T_approach in OPEN with the approach section
occupied; at once in OPEN with it CLEAR. -/
theorem witness_CancelRouteByState :
    ((inst .setting none).state ≠ .opened ∧ (inst .setting none).approachLocked = false) ∧
      (¬(((inst .opened none).state ≠ .opened ∧ (inst .opened none).approachLocked = false) ∨
        ∃ a, ((yard (holding (inst .opened none))).desc.route 0).approach = some a ∧
          ((yard (holding (inst .opened none))).blk.sec a).occ = .clear)) ∧
      ((clearYard (holding (inst .opened none))).blk.sec 4).occ = .clear := by
  refine ⟨by decide, ?_, by decide +kernel⟩
  rintro (⟨h, _⟩ | ⟨a, ha, hc⟩)
  · exact h rfl
  · have h4 : some a = some 4 := ha.symm.trans approach_of_route0
    cases h4
    exact absurd hc (by decide)

/-- A stalled instance of the yard with its point detected, or not, as it requires. -/
def retried (seen : Detection) : State :=
  clearYard fun y => setPt 0 { presented := seen, normalMade := true }
    (holding (inst .stalled none) y)

/-- R104, R119: a retry that finds all detected opens the instance; one that does not leaves it in
SETTING. -/
theorem witness_retry :
    (Proved (retried .normal).desc (after (.retryRoute .a 0) (retried .normal)).blk
        (inst .stalled none) ∧
      (after (.retryRoute .a 0) (retried .normal)).blk.inst 0 =
        some { inst .opened none with approachLocked := true }) ∧
    (¬Proved (retried .lost).desc (after (.retryRoute .a 0) (clearYard fun y => { setPt 0
        { presented := .lost } (holding (inst .stalled none) y) with slots := 8 })).blk
        (inst .stalled none)) := by
  refine ⟨⟨(mayOpen_iff _ _ _).1 (by decide +kernel), by decide +kernel⟩, fun h => ?_⟩
  exact absurd ((mayOpen_iff _ _ _).2 h) (by decide +kernel)

/-- With `owner_requests`, `witness_no_owner`, `witness_HasEntered` and `witness_retry`: the only point
that a stalled instance of route 0 has to command, in an occupied section and in a clear one. -/
theorem witness_HandReleaseAndRetryByState :
    let v := inst .stalled none
    let s := yard (holding v)
    let rt := s.desc.route v.definition
    (rt.points = [(0, .normal)] ∧ rt.flanks = [] ∧ s.desc.ptSec 0 ∈ v.unreleased ∧
      (s.blk.pt 0).presented.isAt .normal = false) ∧
    (s.blk.sec (s.desc.ptSec 0)).occ ≠ .clear ∧
      ((clearYard (holding v)).blk.sec (s.desc.ptSec 0)).occ = .clear := by decide +kernel

/-- With `witness_locks`: the timer of either state running, and stopped. -/
theorem witness_InstanceTimersReleaseWhole :
    let s := fun st t => yard (holding (inst st t))
    (s .cancelling (some 0)).desc.inForce = true ∧
      (s .cancelling (some 0)).blk.inst 0 = some (inst .cancelling (some 0)) ∧
      (s .handReleasing (some 0)).blk.inst 0 = some (inst .handReleasing (some 0)) ∧
      (s .cancelling none).blk.inst 0 = some (inst .cancelling none) := by decide

theorem witness_FieldInputsMoveOccupancy :
    (yard id).desc.inForce = true ∧ (yard id).desc.secOfInput 0 = some 0 ∧
      ((clearYard id).blk.sec 0).occ = .clear ∧ ((yard id).blk.sec 0).occ = .occupied ∧
      ((yard (setSec 0 { occ := .disturbed, healthy := false })).blk.sec 0).occ = .disturbed := by
  decide +kernel

theorem witness_UnnamedFieldEventsDiscarded :
    (yard id).desc.secOfInput 127 = none ∧ (yard id).desc.ptOfChannel 63 = none ∧
      State.reset.desc.inForce = false := by decide +kernel

/-- R54: a point of section 1, which was CLEAR, with a drive that waits for the queue, a drive in
DEAD_TIME, a learning that waits, and a drive that has moved the point. -/
def touched (p : PointState) (queue : List Nat) (slots : Nat) : State :=
  clearYard fun y => setPt 0 p { y with queue := queue, slots := slots }

theorem witness_withdrawal :
    let s := touched { drive := .queued, target := some .reverse } [0] 0
    let dead := touched { drive := .deadTime, target := some .reverse } [] 1
    (s.desc.secKind 1 = 1 ∧ s.desc.secOfInput 1 = some 1 ∧ (s.blk.sec 1).occ = .clear ∧
      s.blk.settleWatch = false ∧ NotYetMoved s 1 0 ∧ s.blk.queue.count 0 = 1) ∧
    (NotYetMoved dead 1 0 ∧ dead.blk.queue.count 0 = 0) ∧
    (NotYetMoved (touched { drive := .learning, phase := some .waiting } [0] 0) 1 0 ∧
      ¬NotYetMoved (touched { drive := .driving } [] 1) 1 0 ∧ s.desc.secKind 0 ≠ 1) := by
  unfold NotYetMoved; decide +kernel

theorem test_withdrawal :
    ([touched { drive := .queued, target := some .reverse, count := 9 } [0] 0,
      touched { drive := .deadTime, target := some .reverse, count := 9 } [] 1,
      touched { drive := .learning, phase := some .waiting, count := 9 } [0] 0,
      touched { drive := .driving, target := some .reverse } [] 1].map fun s =>
        let t := after (.inputOccupied 1) s
        ((t.blk.pt 0).drive, (t.blk.pt 0).refCount, t.blk.queue, t.blk.slots)) =
      [(.idle, 9, [], 0), (.idle, 9, [], 0), (.idle, 9, [], 0), (.driving, 0, [], 1)] := by
  decide +kernel

theorem witness_ClearTimerExpiryClears :
    let s := yard fun y => setSec 1 { timer := some 0, owner := some 0 }
      (holding (inst .setting none) y)
    (yard id).desc.inForce = true ∧
      ((yard (setSec 0 { timer := some 0 })).blk.sec 0).timer.isSome = true ∧
      ((yard id).blk.sec 0).timer = none ∧
      (s.blk.sec 1).owner = some 0 ∧ s.blk.inst 0 = some (inst .setting none) := by decide

/-- R104: an instance in SETTING of which nothing else is wanting is OPEN, its signal at PROCEED, as its
section clears, its point's contact makes, and its point's step comes into the tolerance; and it stays
in SETTING where something is. -/
theorem test_setting_judged :
    let s := fun occ (p : PointState) => clearYard fun y => setPt 0 p (setSec 1
      { occ := occ, timer := some 0, owner := some 0 } (holding (inst .setting none) y))
    let made : PointState := { presented := .normal, computed := .normal, normalMade := true }
    ([(Instr.clearTimerExpiry 1, s .occupied made), (.contactReport 0 true false, s .clear {}),
      (.phaseReport 0 false true, s .clear { normalMade := true, count := 7, refCount := 7 }),
      (.contactReport 0 true false, s .occupied {})].map fun (c, s) =>
        (((after c s).blk.inst 0).map (·.state), ((after c s).blk.sig 0).aspect)) =
      [(some .opened, .proceed), (some .opened, .proceed), (some .opened, .proceed),
       (some .setting, .stop)] := by decide +kernel

/-- With `witness_HasEntered`: entry in every state, into section 0 of kind PLAIN; by a health return, from CLEAR and from
DISTURBED; and into a POINT section, 1, with a drive that has not moved its point. -/
theorem witness_EntryMovesInstance :
    let s := fun st => clearYard (holding (inst st none))
    let h := yard fun y => setSec 0 { occ := .disturbed, healthy := false, owner := some 0 }
      (holding (inst .cancelling (some 1)) y)
    let v := { inst .opened none with unreleased := [1], releaseIndex := 1 }
    let p := clearYard fun y => setPt 0 { drive := .queued } { holding v y with queue := [0] }
    ((s .opened).desc.inForce = true ∧ (s .opened).desc.secOfInput 0 = some 0 ∧
      ((s .opened).blk.sec 0).occ = .clear ∧ ((s .opened).blk.sec 0).owner = some 0 ∧
      (inst .opened none).unreleased.head? = some 0) ∧
    ((s .opened).blk.inst 0 = some (inst .opened none) ∧
      (s .setting).blk.inst 0 = some (inst .setting none) ∧
      (s .entered).blk.inst 0 = some (inst .entered none) ∧
      (s .handReleasing).blk.inst 0 = some (inst .handReleasing none) ∧
      (s .stalled).blk.inst 0 = some (inst .stalled none)) ∧
    (∀ j, j ≠ 0 → (s .opened).blk.inst j = none) ∧
    ((h.blk.sec 0).occ = .disturbed ∧ (h.blk.sec 0).owner = some 0 ∧
      h.blk.inst 0 = some (inst .cancelling (some 1))) ∧
    p.desc.secOfInput 1 = some 1 ∧ (p.blk.sec 1).occ = .clear ∧ (p.blk.sec 1).owner = some 0 ∧
      p.blk.inst 0 = some v ∧ v.unreleased.head? = some 1 ∧ p.desc.secKind 1 = 1 ∧
      NotYetMoved p 1 0 := by
  refine ⟨by decide +kernel, by decide +kernel, fun j h => ?_, by decide +kernel, by decide +kernel,
    by decide +kernel, by decide +kernel, by decide +kernel, by decide +kernel, by decide +kernel,
    ?_⟩
  · exact holding_other _ j h
  · unfold NotYetMoved; decide +kernel

/-- With `holding_other`: an intrusion into section 1 and into a DISTURBED section 0, with the instance
in each state of its clauses. -/
theorem witness_intrusion :
    let s := fun st => clearYard (holding (inst st none))
    (∀ st ∈ [InstState.setting, .opened, .entered, .cancelling, .stalled, .handReleasing],
      (s st).blk.inst 0 = some (inst st none)) ∧
    ((s .opened).desc.secOfInput 1 = some 1 ∧ ((s .opened).blk.sec 1).occ = .clear ∧
      ((s .opened).blk.sec 1).owner = some 0 ∧ 1 ∈ (inst .opened none).unreleased ∧
      (inst .opened none).unreleased.head? ≠ some 1) ∧
    ((s .opened).desc.secOfInput 0 = some 0 ∧ ((s .opened).blk.sec 0).occ ≠ .disturbed ∧
      (inst .opened none).unreleased.head? = some 0) ∧
    Subscribes (s .opened) .alarm .a := by
  refine ⟨by decide +kernel, by decide +kernel, by decide +kernel, ?_⟩
  unfold Subscribes Hears; decide +kernel

/-- R110: an OPEN instance is STALLED by an intrusion, its signal at STOP. -/
theorem test_intrusion :
    let t := after (.inputOccupied 1) (clearYard fun y =>
      let z := holding (inst .opened none) y
      setSig 0 { z.sig 0 with aspect := .proceed } z)
    t.blk.inst 0 = some { inst .stalled none with stallCause := some (.intrusion 1) } ∧
      (t.blk.sig 0).aspect = .stop := by decide +kernel

/-- The yard with an ENTERED instance whose section i, marked or not, has its clear timer running. -/
def clearing (v : RouteInst) (i : Nat) (mark : Bool) (f : Blocks → Blocks) : State :=
  yard fun y => f (setSec i { owner := some 0, wasOccupied := mark, timer := some 0 } (holding v y))

/-- With `witness_locks` and `witness_notices`: the lowest section with the next one occupied; without its mark; with the next one clear; the
second section before the first; a section marked faulty; the last section, of a route without
roads, of an arrival with its cell occupied, and of a departure; the first of two of a departure. -/
theorem witness_SequentialReleaseUnlocks :
    let v := inst .entered none
    let s := clearing v 0 true id
    let unmarked := clearing v 0 false id
    let free := clearing v 0 true (setSec 1 { occ := .clear, owner := some 0 })
    let faulty := yard fun y =>
      setSec 0 { owner := some 0, releaseFault := true, timer := some 0 } (holding v y)
    let last := { v with unreleased := [1], releaseIndex := 1 }
    let arrival := { v with definition := 1, unreleased := [2], releaseIndex := 1 }
    let departure := { v with definition := 2, unreleased := [2] }
    let leaving := { v with definition := 2, unreleased := [2, 1] }
    (s.desc.inForce = true ∧ (s.blk.sec 0).timer.isSome = true ∧ (s.blk.sec 0).owner = some 0 ∧
      s.blk.inst 0 = some v ∧ v.unreleased = 0 :: 1 :: [] ∧ (s.blk.sec 0).wasOccupied = true ∧
      (s.blk.sec 0).releaseFault = false ∧ (s.blk.sec 1).occ ≠ .clear) ∧
    ((unmarked.blk.sec 0).wasOccupied = false ∧ (free.blk.sec 1).occ = .clear ∧
      (faulty.blk.sec 0).releaseFault = true ∧ v.unreleased.head? ≠ some 1 ∧
      (s.blk.sec 1).owner = some 0) ∧
    (last.unreleased = [1] ∧ (s.desc.route 0).dest = none ∧
      ((clearing last 1 true id).blk.sec 1).wasOccupied = true) ∧
    ((s.desc.route 1).dest = some 0 ∧ (s.desc.route 1).origin = none ∧
      (s.desc.roadCells 0).getLast? = some 3 ∧
      ((clearing arrival 2 true id).blk.sec 3).occ ≠ .clear ∧ s.desc.roadMouth 0 = 2) ∧
    (s.desc.route 2).origin = some 0 ∧ (s.desc.route 2).dest = none ∧
      (clearing departure 2 true (setRoad 0 { status := .departing })).blk.inst 0 =
        some departure ∧
      (clearing leaving 2 true (setRoad 0 { status := .departing })).blk.inst 0 = some leaving ∧
      leaving.unreleased = 2 :: 1 :: [] ∧
      ((clearing leaving 2 true (setRoad 0 { status := .departing })).blk.road 0).status =
        .departing ∧
      ((clearing leaving 2 true (setRoad 0 { status := .departing })).blk.sec 1).occ ≠ .clear := by
  decide +kernel

/-- The last section of an arrival clears, the record's cell occupied or not: the road agrees or does
not; the RUNNING entry that the notice is for. -/
def arriving (cell : Occupancy) : State :=
  clearing { inst .entered none with definition := 1, unreleased := [2], releaseIndex := 1
                                     movement := some 1 } 2 true fun y =>
    setSec 3 { occ := cell } (setRoad 0
      { status := .arriving, phase := some .reserved, stack := [⟨5, 200, .arriving⟩] }
      { y with prog := { y.prog with
        entries := [{ planned .running with kind := .arrive, definition := 1 }] } })

/-- The disturbed cell lets the section be released (it is not CLEAR), but never agrees. -/
theorem witness_notices :
    let cleared := fun (s : State) => setSec 2 { s.blk.sec 2 with occ := .clear } s.blk
    RoadAgrees (yard id).desc (cleared (arriving .occupied)) 0 ∧
      ¬RoadAgrees (yard id).desc (cleared (arriving .disturbed)) 0 ∧
      NoticeFor (arriving .occupied) .arrive 0 5 0 ∧
      (∀ j, ¬NoticeFor (arriving .occupied) .depart 0 5 j) ∧
      (arriving .occupied).blk.prog.entries[0]? =
        some { planned .running with kind := .arrive, definition := 1 } := by
  refine ⟨(roadAgrees_iff _ _ _).1 (by decide +kernel),
    fun h => absurd ((roadAgrees_iff _ _ _).2 h) (by decide +kernel),
    ⟨⟨_, rfl, rfl, rfl, rfl, rfl⟩, by simp⟩, fun j ⟨⟨e, he, h⟩, _⟩ => ?_, rfl⟩
  have : e ∈ [{ planned .running with kind := .arrive, definition := 1 }] := List.mem_of_getElem? he
  rw [List.mem_singleton.1 this] at h
  exact absurd h.2.1 (by decide)

/-- R135, R152: the arrival of a road that agrees completes, its entry DONE; else it is SETTLING. -/
theorem test_arrival :
    ([Occupancy.occupied, .disturbed].map fun cell =>
      let t := after (.clearTimerExpiry 2) (arriving cell)
      ((t.blk.road 0).status, (t.blk.road 0).phase, t.blk.prog.entries.map (·.state))) =
      [(.idle, none, [.done]), (.arriving, some .settling, [.running])] := by decide +kernel

/-- The yard with its point in a state, every section CLEAR. -/
def pointed (p : PointState) (f : Blocks → Blocks) : State := clearYard fun y => f (setPt 0 p y)

/-- An idle point at rest; a learning one for the phase reports; a drive brought to its target
inside and outside the tolerance of 6. -/
theorem witness_PointReportsMoveItems :
    let s := pointed {} id
    let drive : PointState :=
      { drive := .driving, target := some .reverse, output := some .reverse, count := 114 }
    let d := pointed drive fun y => { y with slots := 1 }
    s.desc.inForce = true ∧ s.desc.ptOfChannel 0 = some 0 ∧ (s.blk.pt 0).drive = .idle ∧
      (0 : Nat) ∉ s.blk.queue ∧ (s.blk.pt 0).underTest = false ∧ s.desc.tolC = 6 ∧
      (d.blk.pt 0).drive = .driving ∧ (d.blk.pt 0).underTest = false ∧
      (d.blk.pt 0).target = some .reverse ∧ (d.blk.pt 0).strokeRef ≤ (d.blk.pt 0).count + 6 ∧
      (d.blk.pt 0).output = some .reverse ∧ d.blk.queue = [] ∧
      ¬((drive.strokeRef ≤ 113 + 6)) := by decide +kernel

/-- An instance in each state whose point trouble concerns, its point detected as required; the point
so presented, one whose contacts open, one with a phase fault, one whose count leaves the window of
its reference count and one whose count stays in it. -/
theorem witness_trouble :
    let p : PointState := { presented := .normal, normalMade := true, count := 5 }
    let s := fun st p => pointed p (holding (inst st none))
    (∀ st ∈ [InstState.setting, .opened, .entered, .cancelling, .stalled, .handReleasing],
      (s st p).blk.inst 0 = some (inst st none) ∧
        HoldsPoint (yard id).desc (inst st none) 0 .normal) ∧
    ((s .opened p).blk.pt 0).presented.isAt .normal = true ∧
      Detection.lost.isAt .normal = false ∧ (true ≠ p.phaseA ∧ true ≠ p.phaseB) ∧
      ¬(true ≠ p.phaseA ∧ false ≠ p.phaseB) ∧
      p.refCount + 6 < { p with count := 6 }.count + 1 ∧ ¬(p.refCount + 6 < p.count + 1) := by
  refine ⟨fun st _ => ⟨?_, inst_holds _ rfl (.tail _ (.head _))⟩, by decide +kernel⟩
  show (holding (inst st none) (setPt 0 _ (clearSecs yardBlk))).inst 0 = _
  simp [holding]

/-- R106, R107: an OPEN instance is STALLED by the loss of its point, by a phase fault and by an
unbidden move of it, and by a failed test. -/
theorem test_trouble_stalls :
    let p : PointState := { presented := .normal, normalMade := true, count := 6 }
    let s := fun p => pointed p fun y =>
      let z := holding (inst .opened none) y
      setSig 0 { z.sig 0 with aspect := .proceed }
        { z with tst := { z.tst with step := some 0, kind := .cycle } }
    ([(Instr.contactReport 0 false false, p), (.phaseReport 0 true true, p),
      (.phaseReport 0 true false, { p with underTest := true }),
      (.stepTimerExpiry, { p with underTest := true })].map fun (c, p) =>
        (((after c (s p)).blk.inst 0).bind (·.stallCause),
          ((after c (s p)).blk.sig 0).aspect)) =
      [(some (.pointLost 0), .stop), (some (.pointLost 0), .stop),
       (some (.unbiddenMove 0), .stop), (some (.pointLost 0), .stop)] := by decide +kernel

/-- With `witness_trouble`: a drive timeout, and a rest timer's expiry in DEAD_TIME, away from the target
and at it, and in IDLE. -/
theorem witness_DriveTimersAct :
    let driving := pointed { drive := .driving, target := some .reverse, output := some .reverse
                             strokeTimer := some 0 } fun y => { y with slots := 1 }
    let dead := fun m => pointed { drive := .deadTime, target := some .reverse, reverseMade := m
                                   count := 114, restTimer := some 0 } fun y => { y with slots := 1 }
    let idle := pointed { restTimer := some 0 } id
    driving.desc.inForce = true ∧
      ((driving.blk.pt 0).drive = .driving ∧ (driving.blk.pt 0).strokeTimer.isSome = true ∧
        (0 : Nat) ∉ driving.blk.queue ∧ (driving.blk.pt 0).output = some .reverse) ∧
      (∀ m, ((dead m).blk.pt 0).restTimer.isSome = true ∧ ((dead m).blk.pt 0).drive = .deadTime ∧
        ((dead m).blk.pt 0).reverseMade = m ∧ ((dead m).blk.pt 0).normalMade = false ∧
        ((dead m).blk.pt 0).underTest = false ∧
        ((dead m).blk.pt 0).target = some .reverse ∧
        ((dead m).blk.pt 0).strokeRef ≤ ((dead m).blk.pt 0).count + (dead m).desc.tolC) ∧
      (idle.blk.pt 0).restTimer.isSome = true ∧ (idle.blk.pt 0).drive ≠ .deadTime ∧
      (idle.blk.pt 0).drive ≠ .learning := by decide

/-- R51: the rest timer's expiry completes a drive that stands at its target. -/
theorem test_rest_completes :
    let t := after (.restTimerExpiry 0) (pointed { drive := .deadTime, target := some .reverse
                                                   reverseMade := true, count := 114
                                                   restTimer := some 0 } fun y => { y with slots := 1 })
    (t.blk.pt 0).drive = .idle ∧ (t.blk.pt 0).presented = .reverse ∧ t.blk.slots = 0 := by
  decide +kernel

theorem pointed_point (p : PointState) : (pointed p id).blk.pt 0 = p := by
  show (setPt 0 p (clearSecs yardBlk)).pt 0 = p
  simp

theorem pointed_sends (p : PointState) (kind : Byte) (h : maySend (yard id) .a kind = true) :
    CanSend (pointed p id) .a kind :=
  yard_sends (f := fun y => setPt 0 p (clearSecs y)) (clearSecs_links _) (clearSecs_ctl _) h

theorem pointed_requests (p : PointState) :
    (CanSend (pointed p id) .a 0x30 ∧ CanSend (pointed p id) .a 0x31 ∧
      CanSend (pointed p id) .a 0x32 ∧ CanSend (pointed p id) .a 0x33) ∧
      (pointed p id).blk.ctl = (yard id).blk.ctl ∧ (0 : Byte).toNat ≤ 47 ∧
      (yard id).desc.ptInUse 0 = true ∧ (1 : Byte).toNat ≤ 1 := by
  refine ⟨⟨pointed_sends p _ ?_, pointed_sends p _ ?_, pointed_sends p _ ?_,
    pointed_sends p _ ?_⟩, clearSecs_ctl _, ?_, ?_, ?_⟩
  all_goals decide

/-- With `pointed_requests`: one point for each clause; the ends of the ranges. -/
theorem witness_DrivePointTaken :
    let full := pointed {} fun y => { y with slots := 3 }
    let free := pointed {} fun y => { y with slots := 2 }
    let driving : PointState := { drive := .driving, target := some .normal, output := some .normal }
    let against : PointState := { restTimer := some 0, restDir := .normal }
    let there : PointState := { latch := true, reverseMade := true, count := 114 }
    ((pointed { drive := .learning } id).blk.pt 0).drive = .learning ∧
      ((pointed { flankCount := 1 } id).blk.pt 0).flankCount = 1 ∧
      ((pointed {} (setSec 1 {})).blk.sec ((yard id).desc.ptSec 0)).occ ≠ .clear ∧
      ((pointed {} id).blk.sec ((yard id).desc.ptSec 0)).occ = .clear ∧
      ((pointed { presented := .reverse } id).blk.pt 0).presented.isAt .reverse = true ∧
      ((full.blk.pt 0).presented.isAt .reverse = false ∧
        full.desc.driveLimit ≤ full.blk.slots) ∧
      (free.blk.slots < free.desc.driveLimit ∧ free.blk.queue = [] ∧
        (free.blk.pt 0).underTest = false ∧ (free.blk.pt 0).drive = .idle ∧
        (free.blk.pt 0).restTimer = none) ∧
      ((pointed { underTest := true } id).blk.pt 0).underTest = true ∧
      ((pointed against id).blk.pt 0).restDir ≠ .reverse ∧
      (((pointed there id).blk.pt 0).reverseMade = true ∧ there.strokeRef ≤ there.count + 6) ∧
      ((pointed driving id).blk.pt 0).target ≠ some .reverse ∧
      ((pointed driving id).blk.pt 0).output = some .normal ∧
      ((pointed { driving with drive := .deadTime } id).blk.pt 0).drive = .deadTime ∧
      (∀ seen ∈ [Detection.reverse, .lost],
        ((pointed { drive := .queued, target := some .normal, presented := seen } id).blk.pt
          0).presented = seen) ∧
      Detection.reverse.isAt .reverse = true ∧ Detection.lost.isAt .reverse = false ∧
      ((yard id).desc.ptInUse 47 = false ∧ ¬(47 < (47 : Byte).toNat) ∧ 47 < (48 : Byte).toNat) ∧
      1 < (2 : Byte).toNat := by decide +kernel

/-- With `pointed_requests`: a blocked point and one that is not; a full report queue; an index above the
range and one not in use as in the statement before. -/
theorem witness_BlockMarkSetAndCleared :
    ((pointed {} (setRep .a { queue := List.replicate 16 ⟨0xC2, []⟩ })).blk.rep .a).queue.length =
        16 ∧
      ((pointed { blocked := true } id).blk.pt 0).blocked = true ∧
      ((pointed {} id).blk.pt 0).blocked = false ∧
      ((pointed { drive := .learning } id).blk.pt 0).drive = .learning := by decide

/-- With `pointed_requests`: one point for each clause, behind full slots and with one free, at the
normal end and away from it, with a rest timer toward NORMAL and without. -/
theorem witness_LearnPointTaken :
    let good : PointState := { blocked := true, presented := .normal }
    let home : PointState := { good with normalMade := true, count := 6 }
    let s := pointed good fun y => { y with slots := 3 }
    let f := pointed home fun y => { y with slots := 2 }
    ((s.blk.pt 0).drive = .idle ∧ (s.blk.pt 0).blocked = true ∧ (s.blk.pt 0).routeOwner = none ∧
      (s.blk.pt 0).flankCount = 0 ∧ (s.blk.sec (s.desc.ptSec 0)).occ = .clear ∧
      (s.blk.pt 0).underTest = false ∧ (s.blk.pt 0).presented = .normal ∧
      s.desc.driveLimit ≤ s.blk.slots) ∧
      (f.blk.slots < f.desc.driveLimit ∧ f.blk.queue = [] ∧ (f.blk.pt 0).blocked = true ∧
        (f.blk.pt 0).presented = .normal ∧ (f.blk.pt 0).normalMade = true ∧
        (f.blk.pt 0).reverseMade = false ∧ (f.blk.pt 0).count ≤ f.desc.tolC ∧
        (f.blk.pt 0).restTimer = none ∧ ¬({ home with count := 7 }.count ≤ f.desc.tolC)) ∧
      ((pointed { home with restTimer := some 0 } id).blk.pt 0).restDir = .normal ∧
      ((pointed { good with presented := .lost } id).blk.pt 0).presented ≠ .normal ∧
      ((pointed { good with routeOwner := some 0 } id).blk.pt 0).routeOwner ≠ none := by
  decide +kernel

/-- OUTWARD with the reverse contact open; SETTLE with both timers run out; RETURN with the
normal contact open and a stroke at each end of the range, inside it and outside it. -/
theorem witness_LearningTimersAct :
    let at' := fun ph m => pointed { drive := .learning, phase := some ph, settleTimer := some 0
                                     learnTimer := some 0, measured := m } fun y =>
      { y with slots := 1 }
    let s := at' .settle none
    ((at' .outward none).blk.pt 0).phase = some .outward ∧
      ((at' .outward none).blk.pt 0).reverseMade = false ∧
    (s.desc.inForce = true ∧ s.desc.ptOfChannel 0 = some 0 ∧ (s.blk.pt 0).drive = .learning ∧
      (s.blk.pt 0).phase = some .settle ∧ (s.blk.pt 0).settleTimer.isSome = true ∧
      (s.blk.pt 0).restTimer = none ∧ (s.blk.pt 0).learnTimer.isSome = true ∧
      (s.blk.pt 0).phase ≠ some .waiting ∧ (0 : Nat) ∉ s.blk.queue) ∧
    ∀ m ∈ [59, 60, 200, 201], ((at' .back (some m)).blk.pt 0).measured = some m ∧
      ((at' .back (some m)).blk.pt 0).phase = some .back ∧
      ((at' .back (some m)).blk.pt 0).normalMade = false ∧
      ((at' .back (some m)).blk.pt 0).learnCount ≤ s.desc.tolC := by decide +kernel

/-- The later clauses: a rest timer in OUTWARD, and in SETTLE with the settle timer stopped and running;
a phase fault and a step from the levels false, false, granted and waiting; the ends of the count. -/
theorem witness_learning_steps :
    let s := fun ph (t : Timer) n => pointed { drive := .learning, phase := some ph, restTimer := some 0
                                               settleTimer := t, learnCount := n } fun y =>
      { y with slots := 3, queue := if ph = .waiting then [0] else [] }
    (∀ ph, ((s ph none 0).blk.pt 0).restTimer.isSome = true ∧
      ((s ph none 0).blk.pt 0).phase = some ph ∧ ((s ph none 0).blk.pt 0).drive = .learning) ∧
    ((s .settle (some 1) 0).blk.pt 0).settleTimer ≠ none ∧ (s .waiting none 0).blk.queue.count 0 = 1 ∧
      (s .waiting none 0).desc.driveLimit ≤ (s .waiting none 0).blk.slots ∧
      (s .outward none 0).blk.queue = [] ∧
      ((s .outward none 0).blk.pt 0).phaseA = false ∧ ((s .outward none 0).blk.pt 0).phaseB = false := by
  refine ⟨fun ph => ?_, by decide +kernel⟩
  cases ph <;> decide +kernel

/-- R62, R63: the learning count stops at 230 and at 0; the rest timer switches the output; a phase
fault fails the learning. -/
theorem test_learning_steps :
    let s := fun ph n => pointed { drive := .learning, phase := some ph, restTimer := some 0
                                   learnCount := n } fun y => { y with slots := 1 }
    ([(229, true), (230, true), (1, false), (0, false)].map fun (n, a) =>
      ((after (.phaseReport 0 a (!a)) (s .outward n)).blk.pt 0).learnCount) = [230, 230, 0, 0] ∧
    ([LearnPhase.outward, .settle, .back].map fun ph =>
      let q := (after (.restTimerExpiry 0) (s ph 0)).blk.pt 0
      (q.phase, q.output)) =
      [(some .outward, some .reverse), (some .back, some .normal), (some .back, none)] ∧
    ((after (.phaseReport 0 true true) (s .settle 0)).blk.pt 0).drive = .failed := by decide +kernel

/-- A point under test and one that is not; a report of either kind is a command of its own. -/
theorem witness_OutcomeReportRecorded :
    (.testOutcomeReport 0 ⟨.pass, .current⟩ : Instr) ≠ .testOutcomeReport 0 ⟨.pass, .past⟩ ∧
    (pointed { underTest := true } id).desc.inForce = true ∧
      (pointed { underTest := true } id).desc.ptOfChannel 0 = some 0 ∧
      ((pointed { underTest := true } id).blk.pt 0).underTest = true ∧
      ((pointed {} id).blk.pt 0).underTest = false := by decide +kernel

theorem witness_IntervalExpiryStartsStep :
    let s := yard fun y => { y with tst := { y.tst with interval := some 0 } }
    let q := yard fun y => inMode .quiet { y with tst := { y.tst with interval := some 0 } }
    s.desc.inForce = true ∧ s.blk.tst.interval.isSome = true ∧ s.blk.tst.kind = .none ∧
      s.blk.mode = .running ∧ q.blk.mode = .quiet ∧ q.blk.tst.interval.isSome = true ∧
      q.blk.tst.kind = .none := by decide

/-- R70: with both contacts made, a PASS raises no alarm; a FAIL is a recomputation, and raises
COUNT_MISMATCH and TEST_FAIL. -/
theorem test_pass_recomputes_nothing :
    let p : PointState := { underTest := true, normalMade := true, reverseMade := true }
    let alarms := fun o =>
      let s := pointed { p with outcome := some o } fun y =>
        setLink .a { unit .desk with tx := .report ⟨0, []⟩ }
          { y with tst := { y.tst with step := some 0, kind := .cycle } }
      ((after .stepTimerExpiry s).blk.rep .a).queue.filterMap
        fun f => if f.kind = 0xC7 then f.body.head? else none
    alarms .pass = [] ∧ alarms .fail = [6, 8] := by decide +kernel

/-- With `witness_trouble`: a step of each kind in each mode in which it ends; a point under test with a PASS, a FAIL and no
report; the last group and the one before it. -/
theorem witness_ProvingStepEndsInRunning :
    let s := fun m k => yard fun y =>
      inMode m { y with tst := { y.tst with step := some 0, kind := k } }
    let tested := fun o => pointed { underTest := true, outcome := o } fun y =>
      { y with tst := { y.tst with step := some 0, kind := .cycle } }
    ((s .proving .proving).desc.inForce = true ∧
      (s .proving .proving).blk.tst.step.isSome = true ∧
      (s .proving .proving).blk.tst.kind = .proving ∧ (s .proving .proving).blk.mode = .proving) ∧
    ((s .running .cycle).blk.tst.kind = .cycle ∧ (s .running .cycle).blk.mode = .running ∧
      (s .quiet .quiet).blk.mode = .quiet ∧ (s .waking .quiet).blk.mode = .waking) ∧
    (∀ o ∈ [some .pass, some .fail, none], ((tested o).blk.pt 0).outcome = o ∧
      ((tested o).blk.pt 0).underTest = true ∧ (tested o).desc.ptInUse 0 = true ∧
      ((tested o).blk.pt 0).drive = .idle ∧ (0 : Nat) ∉ (tested o).blk.queue) ∧
    ¬((s .running .cycle).blk.tst.pointer + 1 < (s .running .cycle).blk.tst.g) ∧
      (0 : Nat) + 1 < { (s .running .cycle).blk.tst with g := 2 }.g := by decide +kernel

theorem witness_SetGranularityPending :
    CanSend (yard id) .a 0x78 ∧ CanSend State.reset .a 0x78 ∧ CanSend loaded .a 0x78 ∧
      (4 : Byte).toNat = 4 ∧ ¬((3 : Byte).toNat = 1 ∨ (3 : Byte).toNat = 2 ∨ (3 : Byte).toNat = 4) :=
  ⟨canSend_of_maySend (by decide), canSend_of_maySend (by decide),
    canSend_of_maySend (by decide), by decide, by decide⟩

/-- A yard in QUIET with no step or a step of kind QUIET in progress, wake abort OFF or ON, its point
IDLE. -/
def sleeping (k : StepKind) (abort : Bool) : State :=
  let s := yard fun y => inMode .quiet { setPt 0 { underTest := true } y with
    tst := { y.tst with kind := k, step := some 0, interval := some 9 } }
  { s with desc := { s.desc with
    mem := if abort then memWrite yardMem (descAddr 8 20) 1 else yardMem } }

/-- With `witness_yardIdle`. -/
theorem witness_QuietEnteredAndLeft :
    CanSend (yard id) .a 0x79 ∧ (yard id).blk.mode = .running ∧
      CanSend (yard (holding (inst .opened none))) .a 0x79 ∧
      CanSend (sleeping .quiet false) .a 0x7A ∧ CanSend (sleeping .quiet true) .a 0x7A ∧
      (∀ k a, (sleeping k a).blk.mode = .quiet ∧ (sleeping k a).blk.tst.kind = k ∧
        (sleeping k a).desc.wakeAbort = a ∧ (sleeping k a).blk.queue = []) ∧
      (∀ slot, (sleeping .quiet true).blk.inst slot = none) ∧
      (∀ i, (sleeping .quiet true).desc.ptInUse i = true →
        ((sleeping .quiet true).blk.pt i).drive = .idle) ∧
      ((sleeping .quiet true).blk.pt 0).underTest = true ∧
      SubscribesOnly (yard (setLink .a { unit .desk with subscription := 128 })) .mode .a := by
  refine ⟨canSend_of_maySend (by decide), rfl, canSend_of_maySend (by decide),
    canSend_of_maySend (by decide), canSend_of_maySend (by decide +kernel), fun k a => ?_,
    fun slot => ?_, fun i _ => ?_, rfl, ?_, fun c => ?_, by decide⟩
  · cases k <;> cases a <;> decide +kernel
  · simp [sleeping, inMode, yard, yardBlk, Blocks.reset, Blocks.inst, setPt, tabGet_replicate]
  · by_cases h : i = 0
    · subst h; rfl
    · simp [sleeping, inMode, yard, yardBlk, Blocks.reset, Blocks.pt, setPt,
        tabGet_tabSet_other _ _ _ _ _ (Ne.symm h), tabGet_replicate]
  · unfold Subscribes Hears; decide
  · cases c <;> decide

/-- R78, R79: WAKE with no step in progress, with one that runs on, and with one that it abandons. -/
theorem test_wake :
    ([sleeping .none false, sleeping .quiet false, sleeping .quiet true].map fun s =>
      let t := after (.wake .a) s
      (t.blk.mode, t.blk.tst.kind, (t.blk.pt 0).underTest, t.blk.tst.interval)) =
      [(.proving, .proving, true, none), (.waking, .quiet, true, none),
       (.proving, .proving, true, none)] := by decide +kernel

/-- The yard with area 0 in a state, held by instance 0 with the works key or by none. -/
def possessed (st : AreaStatus) (f : Blocks → Blocks) : State :=
  yard fun y => f (setArea 0 { status := st, key := 3 } y)

/-- An area that may be granted, and one that a locked section keeps from it. -/
theorem witness_grant : GrantCondition (yard id).desc (yard id).blk 0 ∧
    ¬GrantCondition (yard (holding (inst .opened none))).desc
      (yard (holding (inst .opened none))).blk 0 :=
  ⟨(grantCondition_iff _ _ _).1 (by decide +kernel),
    fun h => absurd ((grantCondition_iff _ _ _).2 h) (by decide +kernel)⟩

/-- With `witness_grant`. -/
theorem witness_PossessionTakenAndEnded :
    CanSend (yard id) .a 0x40 ∧ CanSend (yard id) .a 0x41 ∧ (yard id).blk.mode = .running ∧
      (7 : Byte).toNat ≤ 7 ∧ 7 < (8 : Byte).toNat ∧ 1 ≤ (15 : Byte).toNat ∧
      15 < (16 : Byte).toNat ∧ ((yard id).blk.area 0).status = .free ∧
      ((possessed .pending id).blk.area 0).status = .pending ∧
      ((possessed .possessed (holding (inst .opened none))).blk.inst 0 =
          some (inst .opened none) ∧
        (inst .opened none).key =
          some ((possessed .possessed (holding (inst .opened none))).blk.area 0).key) ∧
      ∀ slot, (possessed .possessed id).blk.inst slot = none := by
  refine ⟨canSend_of_maySend (by decide), canSend_of_maySend (by decide), rfl, by decide, by decide,
    by decide, by decide, rfl, rfl, ⟨rfl, rfl⟩, fun slot => ?_⟩
  simp [possessed, yard, yardBlk, Blocks.reset, Blocks.inst, setArea, tabGet_replicate]

/-- A PENDING area of which one thing is not yet free, link C taking the reports on areas alone. -/
def awaiting (f : Blocks → Blocks) : State :=
  possessed .pending fun y =>
    setLink .c { unit .planner with subscription := 32 } (f (clearSecs y))

/-- Each of these commands frees the area: it is granted, with its report. -/
def releases : List (Instr × State) :=
  [(.approachTimerExpiry 0, awaiting (holding (inst .cancelling (some 0)))),
   (.handReleaseTimerExpiry 0, awaiting (holding (inst .handReleasing (some 0)))),
   (.clearTimerExpiry 1, awaiting fun y =>
      let z := setSec 0 { occ := .clear } (holding { inst .entered none with
        unreleased := [1], releaseIndex := 1 } y)
      setSec 1 { owner := some 0, wasOccupied := true, timer := some 0 } z),
   (.driveTimeout 0, awaiting fun y => setPt 0 { drive := .driving, target := some .reverse
                                                 output := some .reverse, strokeTimer := some 0 }
      { y with slots := 1 }),
   (.drivePoint .a 0 1, awaiting fun y => setPt 0 { drive := .queued, target := some .normal
                                                    presented := .reverse }
      { y with slots := 3, queue := [0] })]

theorem witness_later_grant :
    (∀ c ∈ releases, (c.2.blk.area 0).status = .pending ∧ c.2.desc.inForce = true ∧
      GrantCondition (after c.1 c.2).desc (after c.1 c.2).blk 0 ∧
      ¬GrantCondition c.2.desc c.2.blk 0) ∧
    ∀ c ∈ releases, SubscribesOnly c.2 .area .c := by
  have h : ∀ c ∈ releases, ((c.2.blk.area 0).status = .pending ∧ c.2.desc.inForce = true) ∧
      grantCondition (after c.1 c.2).desc (after c.1 c.2).blk 0 = true ∧
      grantCondition c.2.desc c.2.blk 0 = false := by decide +kernel
  have l : ∀ c ∈ releases, Subscribes c.2 .area .c ∧ (c.2.blk.link .c).subscription = 32 ∧
      (c.2.blk.rep .c).queue.length ≤ 8 := by unfold Subscribes Hears; decide +kernel
  refine ⟨fun c hc => ⟨(h c hc).1.1, (h c hc).1.2, (grantCondition_iff _ _ _).1 (h c hc).2.1,
    fun g => ?_⟩, fun c hc => ⟨(l c hc).1, fun k hk => ?_, (l c hc).2.2⟩⟩
  · exact absurd ((h c hc).2.2.symm.trans ((grantCondition_iff _ _ _).2 g)) (by decide)
  · rw [(l c hc).2.1] at hk; revert hk; cases k <;> decide

/-- R163, R167. -/
theorem test_later_grant : ∀ c ∈ releases,
    ((after c.1 c.2).blk.area 0).status = .possessed ∧
      ((after c.1 c.2).blk.link .c).tx = .report ⟨0xC6, [1, 0, 1, 2, 3]⟩ := by decide +kernel

/-- The yard with its road in a state, every section CLEAR. -/
def roaded (r : RoadState) : State := clearYard (setRoad 0 r)

theorem roaded_road (r : RoadState) : (roaded r).blk.road 0 = r := by
  show (setRoad 0 r (clearSecs yardBlk)).road 0 = r
  simp

theorem roaded_sends (r : RoadState) (l : LinkId) (kind : Byte)
    (h : maySend (yard id) l kind = true) : CanSend (roaded r) l kind :=
  yard_sends (f := fun y => setRoad 0 r (clearSecs y)) (clearSecs_links _) (clearSecs_ctl _) h

theorem roaded_requests (r : RoadState) :
    (CanSend (roaded r) .c 0x50 ∧ CanSend (roaded r) .a 0x51 ∧ CanSend (roaded r) .a 0x52 ∧
      CanSend (roaded r) .a 0x53) ∧ (roaded r).blk.ctl = (yard id).blk.ctl ∧
      (0 : Byte).toNat ≤ 23 ∧ (yard id).desc.roadInUse 0 = true ∧
      (23 < (24 : Byte).toNat ∧ ¬(23 < (23 : Byte).toNat) ∧ (yard id).desc.roadInUse 23 = false) ∧
      ((clearYard id).blk.sec ((yard id).desc.roadMouth 0)).occ = .clear := by
  refine ⟨⟨roaded_sends r _ _ ?_, roaded_sends r _ _ ?_, roaded_sends r _ _ ?_,
    roaded_sends r _ _ ?_⟩, clearSecs_ctl _, ?_, ?_, ?_, ?_⟩
  all_goals decide

/-- With `roaded_requests` and `overruns_iff`: nothing declared; a tram twice; more trams than the road
takes; a count that is not that of the trams, one above 8 with 8 trams, and a tram above 9999; 9 and 59
trams. -/
theorem witness_DeclareRoadReplacesStack :
    let s := roaded { status := .idle }
    let lens := [0, 5].map fun n => tramLength s.desc s.blk n
    (([] : List Half).length ≤ 8 ∧ (0 : Byte).toNat = ([] : List Half).length ∧
      (∀ n ∈ ([] : List Half).map (·.toNat), n ≤ 9999) ∧
      overruns (s.desc.roadG 0) (s.desc.roadL 0) (s.desc.roadB 0) [] = false) ∧
    (¬(([5, 5] : List Nat).filter fun n => decide (n ≠ 0)).Nodup ∧
      (([0, 5] : List Nat).filter fun n => decide (n ≠ 0)).Nodup) ∧
    (1 < lens.length ∧ s.desc.roadL 0 < s.desc.roadB 0 +
      ((lens.take 1).map fun x => x + s.desc.roadG 0).sum + lens.getD 1 0) ∧
    (8 : Byte).toNat ≠ ([5] : List Half).length ∧ 8 < (9 : Byte).toNat ∧
      (List.replicate 8 (5 : Half)).length ≤ 8 ∧ 9999 < (10000 : Half).toNat ∧
      8 < (List.replicate 9 (5 : Half)).length ∧ (List.replicate 59 (5 : Half)).length ≤ 59 := by
  refine ⟨by decide +kernel, by decide, by decide +kernel, by decide, by decide, by decide, by decide,
    by decide, by decide⟩

/-- R172, R139: 9 trams, 8 trams with the count 9, and nothing declared, in the road that was UNKNOWN. -/
theorem test_declare_lengths :
    ([(Instr.declareRoad .c 0 9 (List.replicate 9 5)), .declareRoad .c 0 9 (List.replicate 8 5),
      .declareRoad .c 0 0 []].map fun c =>
      let t := after c (roaded {})
      ((t.blk.link .c).answers.map (·.body), (t.blk.road 0).status)) =
      [([[0x11]], .unknown), ([[0x12]], .unknown), ([[0x00]], .idle)] := by decide +kernel

/-- With `roaded_requests`: a road for each clause. -/
theorem witness_DeskRoadRequests :
    ((roaded { status := .disagree }).blk.road 0).status = .disagree ∧
      ((roaded { status := .arriving }).blk.road 0).status = .arriving ∧
      ((roaded { status := .blocked }).blk.road 0).status = .blocked ∧
      ((roaded { status := .idle }).blk.road 0).status = .idle ∧
      ((yard (setRoad 0 { status := .disagree })).blk.sec ((yard id).desc.roadMouth 0)).occ ≠
        .clear := by decide

/-- With `witness_notices`: the two timers; a cell of an IDLE road becoming OCCUPIED, DISTURBED and CLEAR; a SETTLING
arrival; a CANCELLING and a HAND_RELEASING instance that hold the mouth of road 0, arriving and
departing. -/
theorem witness_RoadTimersDisagree :
    let idle := roaded { status := .idle }
    let settling : RoadState :=
      { status := .arriving, phase := some .settling, stack := [⟨7, 200, .arriving⟩] }
    let busy := yard fun y => setSec 3 { timer := some 0 } (setRoad 0 settling y)
    let v := fun st d => { inst st (some 0) with definition := d, unreleased := [2] }
    let out := yard fun y => setRoad 0 { status := .departing, stack := [⟨7, 200, .departing⟩] }
      (holding (v .handReleasing 2) y)
    let back := yard fun y => setRoad 0 { status := .arriving, phase := some .reserved }
      (holding (v .cancelling 1) y)
    ((yard id).desc.inForce = true ∧
      ((roaded { status := .idle, timer := some ⟨.hold, 0⟩ }).blk.road 0).timer =
        some ⟨.hold, 0⟩ ∧
      ((roaded { status := .arriving, phase := some .settling
                 timer := some ⟨.arrive, 0⟩ }).blk.road 0).timer = some ⟨.arrive, 0⟩) ∧
    (idle.desc.secKind 3 = 3 ∧ idle.desc.secRoad 3 = 0 ∧ (idle.blk.sec 3).owner = none ∧
      idle.desc.secOfInput 3 = some 3 ∧ (idle.blk.sec 3).occ = .clear ∧
      (idle.blk.road 0).stack.getLast? = none ∧ (busy.blk.sec 3).timer.isSome = true ∧
      (busy.blk.road 0).stack.getLast? = some ⟨7, 200, .arriving⟩ ∧
      (busy.blk.road 0).phase = some .settling) ∧
    (out.blk.inst 0 = some (v .handReleasing 2) ∧
      out.desc.roadMouth 0 ∈ (v .handReleasing 2).unreleased ∧
      (out.desc.route 2).origin = some 0 ∧ (out.desc.route 2).dest = none ∧
      (out.blk.road 0).status = .departing) ∧
    back.blk.inst 0 = some (v .cancelling 1) ∧ (back.desc.route 1).origin = none ∧
      (back.desc.route 1).dest = some 0 ∧ (v .cancelling 1).shortenedAt = none ∧
      (back.blk.road 0).status = .arriving ∧ (back.blk.road 0).phase = some .reserved := by
  decide +kernel

/-- Road 0 mouthed by an instance that is hand released, entered or not, its cell occupied or not; the
RUNNING entry of its movement. -/
def handReleasing (definition : Nat) (mark : Bool) (cell : Occupancy) (r : RoadState) : State :=
  yard fun y => setSec 3 { occ := cell } (setRoad 0 r
    (let z := holding { inst .handReleasing (some 0) with
        definition := definition, unreleased := [2], movement := some 1 } y
     setSec 2 { z.sec 2 with wasOccupied := mark } { z with prog := { z.prog with
      entries := [{ planned .running with
        kind := if definition = 1 then .arrive else .depart, definition := definition }] } }))

/-- An arrival reserved and a departure, of tram 5. -/
def arrival : RoadState :=
  { status := .arriving, phase := some .reserved, stack := [⟨5, 200, .arriving⟩] }
def departure : RoadState := { status := .departing, stack := [⟨5, 200, .departing⟩] }

theorem witness_programme_finished :
    let s := handReleasing 1 true .occupied arrival
    let v : RouteInst := { inst .handReleasing (some 0) with
      definition := 1, unreleased := [2], movement := some 1 }
    let e : ProgEntry := { planned .running with kind := .arrive, definition := 1 }
    (s.blk.inst 0 = some v ∧ s.desc.roadMouth 0 ∈ v.unreleased ∧ s.blk.prog.entries[0]? = some e ∧
      (s.blk.road 0).stack.getLast? = some ⟨5, 200, .arriving⟩ ∧ (s.desc.route 1).origin = none ∧
      (s.desc.route 1).dest = some 0 ∧ v.shortenedAt = none) ∧
    (FirstBad (fun e => e.movement = 1) s.blk.prog.entries 0 ∧ NoticeFor s .arrive 0 5 0 ∧
      NoticeFor (handReleasing 2 true .clear departure) .depart 0 5 0) ∧
    (HasEntered s.blk v ∧ ¬HasEntered (handReleasing 1 false .occupied arrival).blk v) ∧
    RoadAgrees s.desc s.blk 0 ∧
      ¬RoadAgrees s.desc (handReleasing 1 true .clear arrival).blk 0 := by
  refine ⟨by decide +kernel, ⟨⟨⟨_, rfl, rfl⟩, by simp⟩, ⟨⟨_, rfl, rfl, rfl, rfl, rfl⟩, by simp⟩,
    ⟨⟨_, rfl, rfl, rfl, rfl, rfl⟩, by simp⟩⟩,
    ⟨(hasBeenEntered_iff _ _).1 (by decide +kernel),
      fun h => absurd ((hasBeenEntered_iff _ _).2 h) (by decide +kernel)⟩,
    (roadAgrees_iff _ _ _).1 (by decide +kernel),
    fun h => absurd ((roadAgrees_iff _ _ _).2 h) (by decide +kernel)⟩

/-- R152, R153: a hand release of an entered arrival that agrees, of one that does not, of one not
entered, and of a departure, entered and not. -/
theorem test_programme_finished :
    ([handReleasing 1 true .occupied arrival, handReleasing 1 true .clear arrival,
      handReleasing 1 false .occupied arrival, handReleasing 2 true .clear departure,
      handReleasing 2 false .clear departure].map fun s =>
        (after (.handReleaseTimerExpiry 0) s).blk.prog.entries.map fun e => (e.state, e.outcome)) =
      [[(.done, none)], [(.running, none)], [(.failed, some .handReleased)], [(.done, none)],
       [(.failed, some .handReleased)]] := by decide +kernel

/-- The largest count, the ends of the ranges, another count than that of the items, an item out of range and a tram twice. -/
theorem witness_LoadFleetTaken :
    CanSend (yard id) .c 0x54 ∧ (yard id).blk.mode = .running ∧
      (List.replicate 29 (FleetItem.mk 1 800)).length ≤ 29 ∧
      (29 : Byte).toNat = (List.replicate 29 (FleetItem.mk 1 800)).length ∧
      (30 : Byte).toNat ≠ (List.replicate 29 (FleetItem.mk 1 800)).length ∧
      ¬(∃ e ∈ [FleetItem.mk 1 800, ⟨9999, 7000⟩], e.tram.toNat = 0 ∨ 9999 < e.tram.toNat ∨
        e.lengthCm.toNat < 800 ∨ 7000 < e.lengthCm.toNat) ∧
      ([FleetItem.mk 1 800, ⟨9999, 7000⟩].map (·.tram.toNat)).Nodup ∧
      (∃ e ∈ [FleetItem.mk 0 800], e.tram.toNat = 0) ∧
      ¬([FleetItem.mk 1 800, ⟨1, 900⟩].map (·.tram.toNat)).Nodup ∧ 1 < (2 : Byte).toNat :=
  ⟨canSend_of_maySend (by decide), rfl, by decide, by decide, by decide, by decide, by decide,
    by decide, by decide, by decide⟩

/-- A tram of length 80 dm finds a road, one of the default length none. -/
theorem witness_Chooses :
    let free := clearYard (setRoad 0 { status := .idle })
    Chooses free.desc { free.blk with fleet := [⟨9999, 800⟩] } 0 9999 1 ∧
      ∀ definition, ¬Chooses free.desc free.blk 0 9999 definition := by
  refine ⟨(chooseRoad_iff _ _ _ _ _).1 ⟨0, by decide⟩, fun n h => ?_⟩
  obtain ⟨r, hr⟩ := (chooseRoad_iff _ _ _ _ _).2 h
  rw [show chooseRoad _ _ 0 9999 = none from by decide] at hr
  cases hr

/-- With `witness_Chooses`: the ends of the ranges; an ENTRY post with a road and without one, and with a recorded call; an
EXIT post whose road has no tram, another tram, the tram called for, and one departing. -/
theorem witness_CallChoosesRoad :
    let free := clearYard (setRoad 0 { status := .idle })
    let at' := fun st => clearYard (setRoad 0 { status := .idle, stack := [⟨5, 200, st⟩] })
    let listed := yard fun y => { y with prog := { y.prog with entries := [planned .planned] } }
    (CanSend free .b 0x70 ∧ free.blk.mode = .running ∧ (0 : Byte).toNat ≤ 31 ∧
      31 < (32 : Byte).toNat ∧ (9999 : Half).toNat ≤ 9999 ∧ 9999 < (10000 : Half).toNat ∧
      free.desc.postKind 0 = 0 ∧ free.desc.postInUse 0 = true ∧ free.desc.postInUse 31 = false ∧
      (free.blk.link .b).active = none) ∧
    (free.desc.postKind 1 = 1 ∧ free.desc.postRoad 1 = 0 ∧ (free.blk.road 0).stack = [] ∧
      ((at' .stabled).blk.road 0).stack.getLast? = some ⟨5, 200, .stabled⟩ ∧
      ((at' .departing).blk.road 0).stack.getLast? = some ⟨5, 200, .departing⟩) ∧
    ((listed.blk.prog.entries.findIdx? fun e => !e.finished && e.kind == .depart && e.tram == 5) =
        some 0 ∧ listed.blk.prog.entries[0]? = some (planned .planned)) ∧
    CanSend (yard (inMode .quiet)) .b 0x70 ∧ (yard (inMode .quiet)).blk.mode = .quiet ∧
      CanSend State.reset .b 0x70 ∧ State.reset.blk.mode ≠ .quiet :=
  ⟨⟨canSend_of_maySend (by decide), rfl, by decide⟩, by decide, by decide,
    canSend_of_maySend (by decide), rfl, canSend_of_maySend (by decide), by decide⟩

/-- With the flag clear and with it set, a CALLED entry waiting for the offer. -/
theorem witness_HoldAndResumeProgramme :
    let s := yard fun y => { y with prog := { y.prog with hold := true, entries := [planned .called] } }
    (s.blk.prog.hold = true ∧ CanSend s .a 0x64 ∧ s.blk.mode = .running ∧
      (yard id).blk.prog.hold = false) ∧
    (yard id).blk.mode = .running ∧ CanSend (yard id) .a 0x63 ∧ CanSend (yard id) .a 0x64 ∧
      ((yard id).blk.link .a).rx ≠ .inBreak ∧ ((yard id).blk.link .a).role = some .desk :=
  ⟨⟨rfl, canSend_of_maySend (by decide), rfl, rfl⟩, rfl, canSend_of_maySend (by decide), canSend_of_maySend (by decide), by decide, rfl⟩

theorem witness_SkipEntryTaken :
    let s := fun st => yard fun y => { y with prog := { y.prog with entries := [planned st] } }
    CanSend (s .planned) .a 0x62 ∧ (s .planned).blk.mode = .running ∧
      ((s .planned).blk.prog.entries.findIdx? fun e => e.movement == (1 : Half).toNat) = some 0 ∧
      (s .planned).blk.prog.entries[0]? = some (planned .planned) ∧
      ((s .planned).blk.prog.entries.findIdx? fun e => e.movement == (2 : Half).toNat) = none ∧
      (s .running).blk.prog.entries[0]? = some (planned .running) ∧
      (Hears (yard id) .b ∧ ((yard id).blk.link .b).occupancy < 4 ∧
        (yard id).desc.inForce = true ∧ ((yard id).blk.link .b).role ≠ some .desk ∧
        ((yard id).blk.link .b).role ≠ some .planner) ∧
      CanSend (yard (inMode .quiet)) .c 0x62 ∧ (yard (inMode .quiet)).blk.mode ≠ .running :=
  ⟨canSend_of_maySend rfl, rfl, by decide, rfl, by decide, rfl,
    by unfold Hears; decide, canSend_of_maySend (by decide), by decide⟩

def item : ProgItem :=
  { movement := 7, kind := 0, tram := 5, road := 0, definition := 1, notBefore := 65535, auto := 0 }

/-- The yard with a list of programme entries. -/
def listing (es : List ProgEntry) : State :=
  yard fun y => { y with prog := { y.prog with entries := es } }

/-- No instance lives in the yard, so that only a number given twice is repeated. -/
theorem item_fresh (es : List ProgEntry) : ¬RepeatedItem (listing es).blk [item] item := by
  rintro (h | ⟨slot, v, h, -⟩)
  · exact absurd h (by decide)
  · simp [listing, yard, yardBlk, Blocks.reset, Blocks.inst, tabGet_replicate] at h

theorem firstBad_single {bad : ProgItem → Prop} {e : ProgItem} (h : bad e) :
    FirstBad bad [e] 0 := ⟨⟨e, rfl, h⟩, by simp⟩

/-- A sound request, and one that fails each of checks 1 to 4 and not those before it. -/
theorem witness_items :
    let d := (yard id).desc
    (¬BadItem item ∧ ¬UnknownItem d item ∧ ¬StrayItem d item) ∧
    (FirstBad BadItem [{ item with notBefore := 1440 }] 0 ∧
      ¬BadItem { item with notBefore := 1439 }) ∧
    (¬BadItem { item with definition := 3 } ∧
      FirstBad (UnknownItem d) [{ item with definition := 3 }] 0) ∧
    (¬UnknownItem d { item with definition := 2 } ∧
      FirstBad (StrayItem d) [{ item with definition := 2 }] 0) ∧
    FirstBad (RepeatedItem (yard id).blk [item, item]) [item, item] 0 := by
  refine ⟨⟨?_, ?_, ?_⟩, ⟨firstBad_single ?_, ?_⟩, ⟨?_, firstBad_single ?_⟩,
    ⟨?_, firstBad_single ?_⟩, ⟨⟨item, rfl, .inl (by decide)⟩, by simp⟩⟩
  all_goals first
    | (unfold BadItem; decide +kernel)
    | (unfold UnknownItem; decide +kernel)
    | (unfold StrayItem; decide +kernel)

/-- With `item_fresh` and `witness_items`: the counts; an entry under way; a number listed already;
a list with room and one without; a finished head. -/
theorem witness_ProgrammeLoadedAndAppended :
    (CanSend (listing [planned .done]) .c 0x60 ∧ CanSend (listing [planned .done]) .c 0x61 ∧
      (listing [planned .done]).blk.mode = .running ∧ [item].length ≤ 11) ∧
    ((1 : Byte).toNat = [item].length ∧ (2 : Byte).toNat ≠ [item].length ∧
      (12 : Byte).toNat ≠ (List.replicate 11 item).length) ∧
    (∃ e ∈ (listing [planned .running]).blk.prog.entries,
      e.state = .dispatched ∨ e.state = .running) ∧
    (∀ e ∈ (listing [planned .done]).blk.prog.entries,
      ¬(e.state = .dispatched ∨ e.state = .running) ∧ e.movement ≠ item.movement.toNat) ∧
    (planned .done).movement = { item with movement := 1 }.movement.toNat ∧
    ((listing [planned .done]).blk.prog.entries.dropWhile ProgEntry.finished).length +
      [item].length ≤ 64 ∧
    64 < ((listing (List.replicate 64 (planned .planned))).blk.prog.entries.dropWhile
      ProgEntry.finished).length + [item].length :=
  ⟨⟨canSend_of_maySend rfl, canSend_of_maySend rfl, rfl, by decide⟩, by decide, by decide,
    by decide, by decide, by decide, by decide +kernel⟩

/-- Midnight and the minute before it; the last minute in range and the first above it. -/
theorem witness_ClockSetAndAdvanced :
    let s := fun c => yard fun y =>
      { y with prog := { y.prog with clock := some c, minuteTimer := some 0 } }
    (yard id).blk.mode.inForce = true ∧ (yard id).desc.inForce = true ∧
      CanSend (yard id) .a 0x7F ∧ (1439 : Half).toNat ≤ 1439 ∧ 1439 < (1440 : Half).toNat ∧
      ((yard id).blk.link .a).rx ≠ .inBreak ∧ ((yard id).blk.link .a).role = some .desk ∧
      (s 1439).blk.prog.clock = some 1439 ∧ (s 0).blk.prog.clock = some 0 ∧
      (s 1439).blk.prog.minuteTimer.isSome = true :=
  ⟨by decide, rfl, canSend_of_maySend (by decide), by decide, by decide, by decide, rfl, rfl, rfl,
    rfl⟩

/-! ### What is posted, and who has it -/

/-- Link A hears reports of one class, links B and C none; every transmitter is busy. -/
def hearing (c : ReportClass) (s : State) : State :=
  let only := fun (l : LinkId) (sub : Byte) =>
    setLink l { s.blk.link l with subscription := sub, tx := .report ⟨0, []⟩ }
  { s with blk := only .a (1 <<< c.bit) (only .b 0 (only .c 0 s.blk)) }

/-- The bodies of the reports that link A has of a command, with a subscription to one class. -/
def toldOf (c : ReportClass) (i : Instr) (s : State) : List (List Byte) :=
  ((after i (hearing c s)).blk.rep .a).queue.map (·.body)

/-- Of every class there is a link that hears it and no other, with the places that `Told` asks for; and
one without a place. -/
theorem witness_Told : (∀ c, SubscribesOnly (hearing c (yard id)) c .a) ∧
    ¬(((yard (setRep .a { queue := List.replicate 16 ⟨0, []⟩ })).blk.rep .a).queue.length < 16) := by
  refine ⟨fun c => ⟨?_, fun o => ?_, by cases c <;> decide⟩, by decide⟩
  · unfold Subscribes Hears; cases c <;> decide
  · cases c <;> cases o <;> decide

/-- R94, R122, R145, section 11.4: the bodies of the reports of a claim for a waiting entry, whose
link has the ROUTE report in any case (R99), of a retry that opens, of a blocked road and of a road that
disagrees. -/
theorem test_report_bodies :
    let road := fun timer => clearYard (setRoad 0
      { status := .idle, timer := timer, stack := [⟨5, 200, .stabled⟩] })
    toldOf .sect .walkGrant (clearYard waitingFor0) =
        [[1, 0, 0, 0, 0, 0, 0], [1, 1, 0, 0, 0, 0, 0], [2, 0, 0, 0, 7, 0, 255, 255, 255]] ∧
      toldOf .route .walkGrant (clearYard waitingFor0) = [[2, 0, 0, 0, 7, 0, 255, 255, 255]] ∧
      toldOf .route (.retryRoute .a 0) (retried .normal) =
        [[6, 0, 0, 0, 255, 255, 255, 255, 4, 0, 0, 0, 255, 255],
         [6, 0, 0, 0, 255, 255, 255, 255, 0, 1, 0, 1, 255, 255]] ∧
      toldOf .road (.blockRoad .a 0) (road none) =
        [[8, 0, 5, 255, 1, 250, 0, 50, 0, 5, 0, 200, 0, 0, 1]] ∧
      toldOf .road (.holdTimerExpiry 0) (road (some ⟨.hold, 0⟩)) =
        [[3, 0, 4, 255, 1, 250, 0, 50, 0, 5, 0, 200, 0, 0, 1]] ∧
      toldOf .alarm (.holdTimerExpiry 0) (road (some ⟨.hold, 0⟩)) = [[10, 0, 0, 255, 255, 1]] := by
  decide +kernel

/-! ### The whole release with a road and an entry -/

/-- An instance with movement number 1 that holds the mouth of road 0, and nothing else, its entry
RUNNING. -/
def holdingRoad (definition : Nat) (st : InstState) (timer : Timer) (r : RoadState) : State :=
  yard fun y => setRoad 0 r (holding { inst st timer with
      definition := definition, unreleased := [2], movement := some 1, tram := some 5 }
    { y with prog := { y.prog with entries := [planned .running] } })

/-- With `owner_requests`, `witness_locks` and `witness_Told`: a departure and an arrival given up at once,
the entry of the movement RUNNING; a road that the instance does not hold. -/
theorem witness_given_up :
    let v := fun n => { inst .setting none with
      definition := n, unreleased := [2], movement := some 1, tram := some 5 }
    let out := holdingRoad 2 .setting none departure
    let back := holdingRoad 1 .setting none arrival
    (CanSend out .a 0x21 ∧ (out.blk.sig 0).owner = some 0 ∧ out.blk.inst 0 = some (v 2) ∧
      back.blk.inst 0 = some (v 1) ∧ (v 1).approachLocked = false) ∧
    (HoldsRoad out.desc (v 2) 0 ∧ HoldsRoad back.desc (v 1) 0 ∧ ¬HoldsRoad out.desc (v 2) 1 ∧
      (out.desc.route 2).origin = some 0 ∧ (back.desc.route 1).origin = none) ∧
    ((out.blk.road 0).status = .departing ∧ (back.blk.road 0).status = .arriving ∧
      (back.blk.road 0).phase = some .reserved) ∧
    FirstBad (fun e => e.movement = 1) out.blk.prog.entries 0 ∧
      out.blk.prog.entries[0]? = some (planned .running) := by
  refine ⟨⟨canSend_of_maySend rfl, by decide +kernel⟩, ?_, by decide +kernel,
    ⟨⟨_, rfl, rfl⟩, by simp⟩, rfl⟩
  unfold HoldsRoad
  decide +kernel

/-- R138, R153, R116: what a cancel at once leaves of the road, of the entry, of the signals and of the
sections, and the reports that it posts. -/
theorem test_given_up :
    let s := holdingRoad 2 .setting none departure
    let t := after (.cancelRoute .a 0) s
    t.blk.road 0 = { status := .idle, stack := [⟨5, 200, .stabled⟩] } ∧
      t.blk.prog.entries.map (fun e => (e.state, e.outcome)) = [(.failed, some .cancelled)] ∧
      ((t.blk.sec 2).owner = none ∧ (t.blk.sec 0).owner = some 0 ∧ (t.blk.sig 1).owner = none ∧
        (t.blk.sig 0).owner = some 0) ∧
      toldOf .sect (.cancelRoute .a 0) s = [[2, 2, 1, 1, 255, 0, 0]] ∧
      toldOf .route (.cancelRoute .a 0) s = [[7, 0, 2, 0, 5, 0, 1, 0, 1]] ∧
      toldOf .road (.cancelRoute .a 0) s =
        [[5, 0, 1, 255, 1, 250, 0, 50, 0, 5, 0, 200, 0, 0, 0, 5, 0]] ∧
      toldOf .programme (.cancelRoute .a 0) s = [[0, 1, 0, 1, 5, 0, 0, 3, 5, 255, 240]] ∧
      (after (.cancelRoute .a 0) (holdingRoad 1 .setting none arrival)).blk.road 0 =
        { status := .idle, stack := [], timer := some ⟨.hold, s.desc.tHold⟩ } := by decide +kernel

/-- A whole release that withdraws no drive, and the one of `witness_locks`, which withdraws that of
point 0. -/
theorem witness_WithdrawnBy :
    let v := inst .cancelling (some 0)
    let s := clearYard (holding v)
    (∀ p, ¬WithdrawnBy s (after (.approachTimerExpiry 0) s) v p) ∧
      WithdrawnBy (flanked v) (after (.approachTimerExpiry 0) (flanked v)) v 0 := by
  intro v s
  have hp : (s.desc.route v.definition).points = [(0, .normal)] := by decide
  have hf : (s.desc.route v.definition).flanks = [] := by decide
  refine ⟨fun p ⟨h, hd, _⟩ => ?_, .inl ⟨.normal, by decide +kernel⟩, by decide +kernel⟩
  have h0 : p = 0 := by simp [hp, hf] at h; exact h.1
  subst h0
  exact absurd hd (by decide +kernel)

/-! ### The retry -/

/-- A stalled instance of the yard whose point is to be commanded, with this many slots taken. -/
def commanding (slots : Nat) : State :=
  clearYard fun y => { setPt 0 { presented := .reverse } (holding (inst .stalled none) y) with
    slots := slots }

/-- With `holding_other` and `witness_HandReleaseAndRetryByState`: the point neither queued nor LEARNING, at
rest; behind full slots and before a free one; the entrance below 64; no point listed twice. -/
theorem witness_commanded :
    let s := commanding 0
    let rt := s.desc.route 0
    (s.blk.inst 0 = some (inst .stalled none) ∧ (s.blk.pt 0).presented.isAt .normal = false ∧
      0 ∉ s.blk.queue ∧ (s.blk.pt 0).drive = .idle ∧ rt.entrance < 64 ∧
      (rt.points.map (·.1) ++ rt.flanks.map (·.1)).Nodup) ∧
    s.blk.slots < s.desc.driveLimit ∧
      (commanding s.desc.driveLimit).desc.driveLimit ≤ (commanding s.desc.driveLimit).blk.slots := by
  decide +kernel

/-- R119, R50: the commanded point is driven, and behind full slots queued, to the position required. -/
theorem test_commanded :
    ([0, 8].map fun n =>
      let t := after (.retryRoute .a 0) (commanding n)
      ((t.blk.pt 0).drive, (t.blk.pt 0).target, t.blk.queue, t.blk.slots)) =
      [(.driving, some .normal, [], 1), (.queued, some .normal, [0], 8)] := by decide +kernel

/-! ### Drives that end at a report -/

/-- A drive toward REVERSE, under way in a slot or in the queue, at this count, its reverse contact made
or not. -/
def nearly (d : DriveState) (made : Bool) (count : Nat) : State :=
  pointed { drive := d, target := some .reverse, reverseMade := made, count := count
            output := if d = .driving then some .reverse else none } fun y =>
    if d = .queued then { y with queue := [0], slots := 8 } else { y with slots := 1 }

/-- For a step that brings the count to the tolerance with the contact made, a contact that makes there and
a phase fault there: every drive state with a target, a queued point behind full slots, no other queued. -/
theorem witness_drives_end :
    (∀ d ∈ [DriveState.queued, .deadTime, .driving],
      let s := nearly d true 113
      (s.blk.pt 0).drive = d ∧ (s.blk.pt 0).underTest = false ∧
        (s.blk.pt 0).target = some .reverse ∧ (s.blk.pt 0).strokeRef ≤ 113 + 1 + s.desc.tolC ∧
        ¬((s.blk.pt 0).strokeRef ≤ 113 + s.desc.tolC) ∧ (s.blk.pt 0).normalMade = false) ∧
    (nearly .queued true 113).blk.queue.count 0 ≤ 1 ∧
      (nearly .queued true 113).desc.driveLimit ≤ (nearly .queued true 113).blk.slots ∧
      (nearly .driving true 113).blk.queue = [] := by decide +kernel

/-- R51: a drive under way and a queued one complete at the step that reaches the tolerance, at the contact
that makes in it, and at a phase fault in it; one step short of it, and in no detected position, the drive
goes on, presented as MOVING. -/
theorem test_drives_end :
    ([(Instr.phaseReport 0 true false, nearly .driving true 113), (.contactReport 0 false true,
        nearly .driving false 114), (.phaseReport 0 true true, nearly .driving true 114),
      (.phaseReport 0 true false, nearly .queued true 113), (.contactReport 0 false true,
        nearly .queued false 114), (.phaseReport 0 true true, nearly .queued true 114),
      (.phaseReport 0 true false, nearly .driving true 112),
      (.phaseReport 0 true false, nearly .deadTime false 113)].map fun (c, s) =>
        let t := after c s
        ((t.blk.pt 0).drive, (t.blk.pt 0).presented, (t.blk.pt 0).count, t.blk.slots)) =
      [(.idle, .reverse, 114, 0), (.idle, .reverse, 114, 0), (.idle, .reverse, 114, 0),
       (.idle, .reverse, 114, 8), (.idle, .reverse, 114, 8), (.idle, .reverse, 114, 8),
       (.driving, .lost, 113, 1), (.deadTime, .moving, 114, 1)] := by decide +kernel

/-! ### The offer and the clock -/

/-- An auto-departure that is PLANNED until minute 1. -/
def auto : ProgEntry := { planned .planned with notBefore := some 1, auto := true }

/-- The yard in a mode with that entry, its clock at 0 and its minute timer running. -/
def scheduled (m : Mode) (es : List ProgEntry) : State :=
  yard fun y => inMode m { y with
    prog := { y.prog with entries := es, clock := some 0, minuteTimer := some 0 }
    tst := { y.tst with kind := .proving, step := some 0 } }

/-- An entry that may be offered, and none that may: by its minute, by its mark, by the hold flag and by
another that is DISPATCHED; an auto-departure that falls due. -/
theorem witness_Offered :
    let d := (yard id).desc
    let p := (scheduled .running []).blk.prog
    (MayGo d p [planned .called] 0 ∧ p.hold = false ∧
      ∀ e ∈ [planned .called], e.state ≠ .dispatched) ∧
    (∀ j, ¬MayGo d p [{ planned .called with notBefore := some 1 }] j) ∧
    (∀ j, ¬MayGo d p [{ planned .called with tried := true }] j) ∧
    (¬∀ e ∈ [planned .called, planned .dispatched], e.state ≠ .dispatched) ∧
    (autoCalled (some 0) auto = auto ∧ autoCalled (some 1) auto ≠ auto) := by
  have single : ∀ (e x : ProgEntry) (j : Nat), [e][j]? = some x → x = e := fun e x j h =>
    List.mem_singleton.1 (List.mem_of_getElem? h)
  refine ⟨⟨⟨_, rfl, rfl, rfl, rfl, by decide⟩, by decide⟩, fun j ⟨x, h, _, _, hm, _⟩ => ?_,
    fun j ⟨x, h, _, ht, _⟩ => ?_, by decide, by unfold autoCalled; decide⟩
  · rw [single _ _ _ h] at hm; exact absurd hm (by decide)
  · rw [single _ _ _ h] at ht; exact absurd ht (by decide)

/-- R148 to R150, R160: TIME and the minute timer's expiry in RUNNING call an auto-departure that is due and
offer it, in QUIET neither; the end of the proving step judges both. -/
theorem test_clock_judges :
    ([(Instr.time .a false 1, scheduled .running [auto]), (.minuteTimerExpiry, scheduled .running [auto]),
      (.time .a false 0, scheduled .running [auto]), (.time .a false 1, scheduled .quiet [auto]),
      (.stepTimerExpiry, scheduled .proving [{ auto with notBefore := none }]),
      (.stepTimerExpiry, scheduled .proving [{ planned .called with tried := true }])].map
        fun (c, s) => ((after c s).blk.prog.entries.map (·.state), toldOf .programme c s)) =
      [([.dispatched], [[0, 1, 0, 1, 5, 0, 0, 0, 1, 255, 255]]),
       ([.dispatched], [[0, 1, 0, 1, 5, 0, 0, 0, 1, 255, 255]]), ([.planned], []), ([.planned], []),
       ([.dispatched], [[0, 1, 0, 1, 5, 0, 0, 0, 1, 255, 255]]), ([.dispatched], [])] := by
  decide +kernel

end Sys2Proof.Tests
end

section
/-! The READ kinds: a READ request on a link that takes frames is handed to its owner whatever the
link's role (R172, Table 27), and its owner answers once and does nothing else. -/

namespace Sys2Proof.Machine

/-! ### Acceptance of a kind that every role may send -/

theorem LinkUnit.answers_length_lt_of_occupancy_lt {u : LinkUnit} {n : Nat} (h : u.occupancy < n) :
    u.answers.length < n :=
  Nat.lt_of_le_of_lt (Nat.le_add_right _ _) h

theorem CatRow.permits_of_roles_nil {r : CatRow} (h : r.roles = []) (role : Option Role) :
    r.permits role = true := by
  simp [CatRow.permits, h]

/-- Table 27: a kind whose row lists no roles may be sent from every link. -/
theorem canSend_of_roles_nil {s : State} {l : LinkId} {kind : Byte} {r : CatRow} (hh : Hears s l)
    (ho : (s.blk.link l).occupancy < 4) (hr : catRow kind = some r) (hroles : r.roles = []) :
    CanSend s l kind := by
  refine ⟨hh, ho, fun q hq _ => ?_⟩
  obtain rfl : r = q := Option.some.inj (hr.symm.trans hq)
  exact CatRow.permits_of_roles_nil hroles _

/-! ### The shared form of a READ answer -/

/-- The body of a READ answer: its result code, and the content after DONE. -/
def readBody (inForce : Bool) (max idx : Nat) (content : Option (List Byte)) : List Byte :=
  if inForce = false then [0x30]
  else if max < idx then [0x12]
  else content.elim [0x30] fun c => 0x00 :: c

/-- Each of the four branches of a READ places one answer, of the body that `readBody` names. -/
theorem serveRead_eq_placeAnswer (l : LinkId) (kind : Byte) (max idx : Nat)
    (content : Option (List Byte)) (d : Desc) (y : Blocks) :
    serveRead l kind max idx content d y =
      placeAnswer l kind (readBody d.inForce max idx content) y := by
  unfold serveRead readBody
  by_cases hf : d.inForce = false
  · rw [if_pos hf, if_pos hf]; rfl
  · rw [if_neg hf, if_neg hf]
    by_cases hi : max < idx
    · rw [if_pos hi, if_pos hi]; rfl
    · rw [if_neg hi, if_neg hi]
      cases content <;> rfl

/-- A READ request of the right length is answered, and changes nothing but the answer. The owner
reads the blocks after the end of the frame. -/
theorem onlyAnswers_read {s : State} {l : LinkId} {kind : Byte} {len : Nat} {r : CatRow}
    (hh : Hears s l) (ho : (s.blk.link l).occupancy < 4) (hr : catRow kind = some r)
    (hroles : r.roles = []) (hlen : r.len.ok len = true) (max idx : Nat)
    (content : Desc → Blocks → Option (List Byte)) :
    OnlyAnswers s
      (finish (takeRequest l kind len
        (onBlocks fun d y => serveRead l kind max idx (content d y) d y) s)) l kind
      (readBody s.desc.inForce max idx (content s.desc (endFrame l s.blk))) := by
  rw [takeRequest_hand s l kind len r _ (canSend_of_roles_nil hh ho hr hroles) hr hlen]
  simp only [onBlocks, serveRead_eq_placeAnswer]
  exact onlyAnswers_placeAnswer s l kind _ (LinkUnit.answers_length_lt_of_occupancy_lt ho)

/-! ### READ SIGNAL (R42) -/

@[simp] theorem endFrame_sig (l : LinkId) (i : Nat) (y : Blocks) :
    (endFrame l y).sig i = y.sig i := rfl

theorem signalContent_endFrame (l : LinkId) (d : Desc) (y : Blocks) (i : Nat) :
    signalContent d (endFrame l y) i = signalContent d y i := by
  simp only [signalContent, endFrame_sig]

/-- R3, R6: within the table, a signal record is in use when its kind is not 255. -/
theorem sigInUse_iff_of_lt {d : Desc} {i : Nat} (h : i < 64) :
    d.sigInUse i = true ↔ d.sigKind i ≠ 255 := by
  simp [Desc.sigInUse, h]

theorem signalContent_of_notInUse {d : Desc} {i : Nat} (y : Blocks) (h : i < 64)
    (hk : d.sigKind i = 255) : signalContent d y i = none :=
  if_neg fun hu => (sigInUse_iff_of_lt h).1 hu hk

theorem signalContent_of_inUse {d : Desc} {i : Nat} (y : Blocks) (h : i < 64)
    (hk : d.sigKind i ≠ 255) :
    signalContent d y i = some (b1 (d.sigKind i) ++ b1 (d.sigChannel i) ++
      b1 (y.sig i).aspect.code ++ o1 (y.sig i).owner) :=
  if_pos ((sigInUse_iff_of_lt h).2 hk)

/-- R42: the four answers of READ SIGNAL, by the description and the signal's record. -/
theorem readBody_signalContent (d : Desc) (y : Blocks) (i : Nat) :
    readBody d.inForce 63 i (signalContent d y i) =
      if d.inForce = false then [0x30]
      else if 63 < i then [0x12]
      else if d.sigKind i = 255 then [0x30]
      else [0x00] ++ b1 (d.sigKind i) ++ b1 (d.sigChannel i) ++ b1 (y.sig i).aspect.code ++
        o1 (y.sig i).owner := by
  unfold readBody
  by_cases hf : d.inForce = false
  · rw [if_pos hf, if_pos hf]
  · rw [if_neg hf, if_neg hf]
    by_cases hi : 63 < i
    · rw [if_pos hi, if_pos hi]
    · rw [if_neg hi, if_neg hi]
      have hlt : i < 64 := Nat.lt_succ_of_le (Nat.le_of_not_lt hi)
      by_cases hk : d.sigKind i = 255
      · rw [if_pos hk, signalContent_of_notInUse y hlt hk]; rfl
      · rw [if_neg hk, signalContent_of_inUse y hlt hk]; rfl

/-- What `exec` makes of READ SIGNAL. -/
theorem exec_readSignal (l : LinkId) (g : Byte) (s : State) :
    exec (.readSignal l g) s =
      .next (finish (takeRequest l kReadSignal 1 (onBlocks (serveSignal l g)) s)) := rfl

/-- Settles O21: READ SIGNAL is one of the READ kinds that every role may send (`onlyAnswers_read`),
and its body is the one of R42 (`readBody_signalContent`). -/
theorem readSignalAnswer : Obligations.ReadSignalAnswer := by
  intro l g s hh ho
  refine ⟨_, exec_readSignal l g s, ?_⟩
  have hanswer := onlyAnswers_read (kind := kReadSignal) (len := 1) hh ho rfl rfl rfl 63 g.toNat
    fun d y => signalContent d y g.toNat
  rw [signalContent_endFrame, readBody_signalContent] at hanswer
  exact hanswer

end Sys2Proof.Machine
end

section
/-! SKIP ENTRY: a request that its link may not send is refused before it reaches its owner (R172); one
that is handed over is answered by the programme sequencer (R157), which moves the entry, reports it
(R160) and judges the offer (R150). -/

namespace Sys2Proof.Machine

/-! ### Acceptance: the whole step of a refused and of a handed-over request -/

/-- R172: while a description is in force, a link whose role Table 27 does not permit is refused. -/
theorem passFrame_notPermitted {s : State} {l : LinkId} {kind : Byte} {len : Nat} {r : CatRow}
    (hh : Hears s l) (ho : (s.blk.link l).occupancy < 4) (hf : s.desc.inForce = true)
    (hr : catRow kind = some r) (hlen : r.len.ok len = true)
    (hp : r.permits (s.blk.link l).role = false) :
    passFrame s.desc l kind len s.blk = .refuse rNotPermitted := by
  obtain ⟨hb, ha⟩ := hh
  unfold passFrame
  rw [if_neg (by simp [hb, ha]), if_neg (Nat.not_le.2 ho), hr]
  simp [hlen, hf, hp]

theorem onlyAnswers_notPermitted {s : State} {l : LinkId} {kind : Byte} {len : Nat} {r : CatRow}
    (owner : State → State) (hh : Hears s l) (ho : (s.blk.link l).occupancy < 4)
    (hf : s.desc.inForce = true) (hr : catRow kind = some r) (hlen : r.len.ok len = true)
    (hp : r.permits (s.blk.link l).role = false) :
    OnlyAnswers s (finish (takeRequest l kind len owner s)) l kind [0x13] := by
  unfold takeRequest
  rw [passFrame_notPermitted hh ho hf hr hlen hp]
  exact onlyAnswers_placeAnswer s l kind _ (LinkUnit.answers_length_lt_of_occupancy_lt ho)

/-- The step of a request that its link may send: its owner, after the end of the frame, then the end of
the step. -/
theorem finish_takeRequest {s : State} {l : LinkId} {kind : Byte} {len : Nat} {r : CatRow}
    (op : Desc → Blocks → Blocks) (h : CanSend s l kind) (hr : catRow kind = some r)
    (hlen : r.len.ok len = true) :
    finish (takeRequest l kind len (onBlocks op) s) =
      { s with blk := settle (op s.desc (endFrame l s.blk)) } := by
  rw [takeRequest_hand s l kind len r _ h hr hlen]; rfl

/-- R18: an owner that does nothing but place one answer. -/
theorem onlyAnswers_of_placeAnswer {s : State} {l : LinkId} {kind : Byte} {len : Nat} {r : CatRow}
    {op : Desc → Blocks → Blocks} {body : List Byte} (h : CanSend s l kind)
    (hr : catRow kind = some r) (hlen : r.len.ok len = true)
    (hop : op s.desc (endFrame l s.blk) = placeAnswer l kind body (endFrame l s.blk)) :
    OnlyAnswers s (finish (takeRequest l kind len (onBlocks op) s)) l kind body := by
  have ⟨_, ho, _⟩ := h
  rw [finish_takeRequest op h hr hlen, hop]
  exact onlyAnswers_placeAnswer s l kind body (LinkUnit.answers_length_lt_of_occupancy_lt ho)

/-- A step that ends a frame, moves no link unit, and places an answer. -/
theorem answersWith_settle_placeAnswer {s : State} {l : LinkId} {kind : Byte} {body : List Byte}
    {y : Blocks} (hroom : (s.blk.link l).answers.length < 4)
    (hy : y.outer = (endFrame l s.blk).outer) :
    AnswersWith s { s with blk := settle (placeAnswer l kind body y) } l ⟨kind, body⟩ := by
  have hlink : ∀ k, y.link k = (endFrame l s.blk).link k := fun k =>
    congrArg (fun o : ModeControl × PerLink LinkUnit => o.2.get k) hy
  have hanswers : (y.link l).answers = (s.blk.link l).answers := by
    rw [hlink, endFrame, link_setLink, if_pos rfl]
  refine ⟨rfl, fun k => ?_⟩
  show ((settle _).link k).still = _
  rw [settle_still, placeAnswer_room _ _ _ _ (by rwa [hanswers]), link_setLink, hlink, hlink]
  by_cases hk : k = l
  · subst hk
    simp [endFrame, LinkUnit.still, LinkUnit.ended]
  · simp [endFrame, link_setLink, hk]

/-! ### Reports and answers, one queue at a time -/

@[simp] theorem placeAnswer_rep (l : LinkId) (kind : Byte) (body : List Byte) (k : LinkId)
    (y : Blocks) : (placeAnswer l kind body y).rep k = y.rep k := by
  unfold placeAnswer; split <;> rfl

/-- A link that receives reports still does so after the end of a frame on link `l`. -/
theorem subscribes_endFrame {s : State} {c : ReportClass} {k : LinkId} (l : LinkId)
    (h : Subscribes s c k) : Subscribes { s with blk := endFrame l s.blk } c k := by
  obtain ⟨hbit, ⟨hrx, haddr⟩, hroom⟩ := h
  have hlink : (endFrame l s.blk).link k = if k = l then
      { s.blk.link l with rx := .hunt, buf := [], gapRunning := false } else s.blk.link k :=
    link_setLink l k _ _
  by_cases hk : k = l
  · subst hk
    rw [if_pos rfl] at hlink
    exact ⟨by rwa [hlink], ⟨by simp [hlink], haddr⟩, hroom⟩
  · rw [if_neg hk] at hlink
    exact ⟨by rwa [hlink], ⟨by rwa [hlink], haddr⟩, hroom⟩

/-- R175: a posted report stands last in the queue of a link that receives it. -/
theorem mem_post_queue {s : State} {c : ReportClass} {k : LinkId} (body : List Byte)
    (h : Subscribes s c k) : ⟨c.kind, body⟩ ∈ ((post c body s.blk).rep k).queue := by
  obtain ⟨hbit, ⟨hrx, haddr⟩, hroom⟩ := h
  rw [post_rep, if_pos hbit, taken, if_neg (by simp [hrx, haddr, hroom])]
  exact List.mem_append_right _ (List.mem_singleton.2 rfl)

/-! ### An entry moved, and the offer judged -/

/-- R160: the PROGRAMME report of an entry's change, its absent or present slot and outcome last. -/
theorem entryFrame_eq (e : ProgEntry) (old new : EntryState) (slot : Option Nat)
    (o : Option Outcome) : entryFrame e old new slot o =
      ⟨0xC5, b1 0 ++ b2 e.movement ++ b1 e.kind.code ++ b2 e.tram ++ b1 e.road ++ b1 old.code ++
        b1 new.code ++ (o1 slot ++ outcomeBody o)⟩ := by
  rw [entryFrame, List.append_assoc _ (o1 slot)]

section
variable {i : Nat} {e : ProgEntry} {y : Blocks}

theorem moveEntry_yard (h : y.prog.entries[i]? = some e) (new : EntryState) (slot : Option Nat)
    (o : Option Outcome) : (moveEntry i new slot o y).yard =
      (setEntry i { e with state := new, outcome := o } y).yard := by
  rw [moveEntry_eq h, post_yard]

theorem moveEntry_prog (h : y.prog.entries[i]? = some e) (new : EntryState) (slot : Option Nat)
    (o : Option Outcome) : (moveEntry i new slot o y).prog =
      { y.prog with entries := y.prog.entries.set i { e with state := new, outcome := o } } :=
  congrArg Blocks.prog (moveEntry_yard h new slot o)

end

/-- R160: every subscribing link gets the report of the entry's change. -/
theorem entryFrame_mem_moveEntry {s : State} {i : Nat} {e : ProgEntry} {k : LinkId}
    (he : s.blk.prog.entries[i]? = some e) (new : EntryState) (slot : Option Nat)
    (o : Option Outcome) (h : Subscribes s .programme k) :
    entryFrame e e.state new slot o ∈ ((moveEntry i new slot o s.blk).rep k).queue := by
  rw [moveEntry_eq he]
  exact mem_post_queue (s := { s with blk := setEntry i _ s.blk }) _ h

theorem judgeOffer_yard (d : Desc) (y : Blocks) : (judgeOffer d y).yard =
    { y.yard with prog := { y.prog with entries := (judgeOffer d y).prog.entries } } := by
  unfold judgeOffer; split <;> rfl

@[simp] theorem judgeOffer_rep (d : Desc) (k : LinkId) (y : Blocks) :
    (judgeOffer d y).rep k = y.rep k := by
  unfold judgeOffer; split <;> rfl

/-! ### SKIP ENTRY (R157) -/

theorem skippable_iff (e : ProgEntry) :
    skippable (some e) = true ↔ e.state = .planned ∨ e.state = .called := by
  simp [skippable]

/-- What a SKIP that is taken makes of the blocks, its answer aside. -/
def skipNow (d : Desc) (i : Nat) (y : Blocks) : Blocks :=
  judgeOffer d (moveEntry i .skipped none none y)

section
variable (l : LinkId) {movement : Half} (d : Desc) {y : Blocks}

theorem serveSkip_of_not_running (hm : y.mode ≠ .running) : serveSkip l movement d y =
    placeAnswer l kSkipEntry (b1 rWrongMode ++ b1 y.mode.code) y := if_neg hm

theorem serveSkip_of_zero (hm : y.mode = .running) (h0 : movement.toNat = 0) :
    serveSkip l movement d y = placeAnswer l kSkipEntry (b1 rBadValue) y := by
  have hz : movement = 0 := BitVec.eq_of_toNat_eq h0
  rw [serveSkip, inRunning, if_pos hm, if_pos hz]; rfl

/-- R157: the taking of a movement number other than 0 in RUNNING, by the place of its entry. -/
theorem serveSkip_of_ne_zero (hm : y.mode = .running) (h0 : movement.toNat ≠ 0) :
    serveSkip l movement d y =
      match y.prog.entries.findIdx? fun e => e.movement == movement.toNat with
      | none => placeAnswer l kSkipEntry (b1 rNotFound) y
      | some i =>
        if skippable (y.prog.entries[i]?) = true then
          placeAnswer l kSkipEntry (b1 rDone) (skipNow d i y)
        else placeAnswer l kSkipEntry (b1 rInUse) y := by
  have hz : movement ≠ 0 := fun h => h0 (by rw [h]; rfl)
  rw [serveSkip, inRunning, if_pos hm, if_neg hz]; rfl

end

section
variable {s : State} {i : Nat} {e : ProgEntry} (l : LinkId)
  (he : s.blk.prog.entries[i]? = some e)
include he

/-- R157: a SKIP changes nothing of the yard but the programme's entries. -/
theorem skipNow_yard : (skipNow s.desc i (endFrame l s.blk)).yard = { s.blk.yard with
    prog := { s.blk.prog with
      entries := (skipNow s.desc i (endFrame l s.blk)).prog.entries } } := by
  have hp : (endFrame l s.blk).prog.entries[i]? = some e := he
  rw [skipNow, judgeOffer_yard, moveEntry_yard hp, moveEntry_prog hp]; rfl

/-- R150, R157: the offer follows the SKIP, over the moved window. -/
theorem skipNow_offered (hm : s.blk.mode = .running) : Offered s.desc s.blk.prog
    (s.blk.prog.entries.set i { e with state := .skipped, outcome := none })
    (skipNow s.desc i (endFrame l s.blk)).prog.entries := by
  have hp : (endFrame l s.blk).prog.entries[i]? = some e := he
  have hmode : (moveEntry i .skipped none none (endFrame l s.blk)).mode = .running := by
    rw [← hm]
    exact congrArg (fun o : ModeControl × PerLink LinkUnit => o.1.mode)
      (moveEntry_outer i .skipped none none (endFrame l s.blk))
  have hoffer := judgeOffer_offered s.desc _ hmode
  rw [moveEntry_prog hp] at hoffer
  exact hoffer

theorem skipNow_reports {k : LinkId} (h : Subscribes s .programme k) :
    entryFrame e e.state .skipped none none ∈
      ((skipNow s.desc i (endFrame l s.blk)).rep k).queue := by
  rw [skipNow, judgeOffer_rep]
  exact entryFrame_mem_moveEntry (s := { s with blk := endFrame l s.blk }) he _ _ _
    (subscribes_endFrame l h)

end

@[simp] theorem skipNow_outer (d : Desc) (i : Nat) (y : Blocks) : (skipNow d i y).outer = y.outer := by
  simp [skipNow]

/-- What `exec` makes of SKIP ENTRY. -/
theorem exec_skipEntry (l : LinkId) (movement : Half) (s : State) :
    exec (.skipEntry l movement) s =
      .next (finish (takeRequest l kSkipEntry 2 (onBlocks (serveSkip l movement)) s)) := rfl

/-- Table 27: SKIP ENTRY may be sent by desks and planners, with a body of two bytes. -/
theorem catRow_skipEntry :
    catRow kSkipEntry = some ⟨kSkipEntry, [.desk, .planner], .exactly 2⟩ := rfl

theorem not_permits_skipEntry : ∀ {role : Option Role}, role ≠ some .desk → role ≠ some .planner →
    CatRow.permits ⟨kSkipEntry, [.desk, .planner], .exactly 2⟩ role = false
  | none, _, _ => rfl
  | some .desk, hd, _ => absurd rfl hd
  | some .planner, _, hp => absurd rfl hp
  | some .calls, _, _ => rfl
  | some .unused, _, _ => rfl

/-- A SKIP of which the sequencer makes one answer alone. -/
theorem onlyAnswers_skipEntry {s : State} {l : LinkId} {movement : Half} {body : List Byte}
    (h : CanSend s l kSkipEntry) (hop : serveSkip l movement s.desc (endFrame l s.blk) =
      placeAnswer l kSkipEntry body (endFrame l s.blk)) :
    OnlyAnswers s (finish (takeRequest l kSkipEntry 2 (onBlocks (serveSkip l movement)) s)) l
      kSkipEntry body :=
  onlyAnswers_of_placeAnswer h catRow_skipEntry rfl hop

/-- R157: the step of a SKIP that is taken. -/
theorem skipEntry_taken {s : State} {l : LinkId} {i : Nat} {e : ProgEntry}
    (he : s.blk.prog.entries[i]? = some e) (hroom : (s.blk.link l).answers.length < 4)
    (hm : s.blk.mode = .running) :
    let t : State := { s with
      blk := settle (placeAnswer l kSkipEntry (b1 rDone) (skipNow s.desc i (endFrame l s.blk))) }
    AnswersWith s t l ⟨0x62, [0x00]⟩ ∧
    Offered s.desc s.blk.prog
      (s.blk.prog.entries.set i { e with state := .skipped, outcome := none })
      t.blk.prog.entries ∧
    t.blk.yard = { s.blk.yard with
      prog := { s.blk.prog with entries := t.blk.prog.entries } } ∧
    ∀ k, Subscribes s .programme k → ∃ rest,
      Posted t k ⟨0xC5, b1 0 ++ b2 e.movement ++ b1 e.kind.code ++ b2 e.tram ++
        b1 e.road ++ b1 e.state.code ++ b1 6 ++ rest⟩ := by
  intro t
  have hyard : t.blk.yard = (skipNow s.desc i (endFrame l s.blk)).yard := by
    show (settle _).yard = _
    rw [settle_yard, placeAnswer_yard]
  have hprog : t.blk.prog = (skipNow s.desc i (endFrame l s.blk)).prog :=
    (congrArg Blocks.prog hyard :)
  refine ⟨answersWith_settle_placeAnswer hroom (skipNow_outer ..), ?_, ?_, fun k hk => ?_⟩
  · rw [hprog]
    exact skipNow_offered l he hm
  · rw [hyard, hprog]
    exact skipNow_yard l he
  · have hposted : Posted t k (entryFrame e e.state .skipped none none) :=
      posted_settle _ k _ (.inl (by rw [placeAnswer_rep]; exact skipNow_reports l he hk))
    rw [entryFrame_eq] at hposted
    exact ⟨_, hposted⟩

/-- Settles O58: R172 refuses the other links (`onlyAnswers_notPermitted`); of a SKIP that is handed
over, the sequencer makes WRONG_MODE, BAD_VALUE, NOT_FOUND or IN_USE alone (`onlyAnswers_skipEntry`), or
moves the entry (`skipEntry_taken`). -/
theorem skipEntryTaken : Obligations.SkipEntryTaken := by
  intro l movement s
  refine ⟨fun hh ho hf hd hp => ?_, fun hs hm => ?_, fun hs hm => ?_⟩ <;>
    refine ⟨_, exec_skipEntry l movement s, ?_⟩
  · exact onlyAnswers_notPermitted _ hh ho hf catRow_skipEntry rfl (not_permits_skipEntry hd hp)
  · exact onlyAnswers_skipEntry hs (serveSkip_of_not_running l s.desc hm)
  · by_cases h0 : movement.toNat = 0
    · rw [if_pos h0]
      exact onlyAnswers_skipEntry hs (serveSkip_of_zero l s.desc hm h0)
    · rw [if_neg h0]
      have hserve := serveSkip_of_ne_zero l s.desc (y := endFrame l s.blk) hm h0
      have hprog : (endFrame l s.blk).prog = s.blk.prog := rfl
      rw [hprog] at hserve
      cases hfind : s.blk.prog.entries.findIdx? fun e => e.movement == movement.toNat with
      | none =>
        rw [hfind] at hserve
        exact onlyAnswers_skipEntry hs hserve
      | some i =>
        rw [hfind] at hserve
        intro e he
        simp only [he, skippable_iff] at hserve
        by_cases hstate : e.state = .planned ∨ e.state = .called
        · rw [if_pos hstate] at hserve ⊢
          have ⟨_, ho, _⟩ := hs
          rw [finish_takeRequest (kind := kSkipEntry) _ hs catRow_skipEntry rfl, hserve]
          exact skipEntry_taken he (LinkUnit.answers_length_lt_of_occupancy_lt ho) hm
        · rw [if_neg hstate] at hserve ⊢
          exact onlyAnswers_skipEntry hs hserve

end Sys2Proof.Machine
end

section
/-! The hold-off line (R174): every command but POWER ON RESET ends in `finish`, which judges the line
of each link (`settle_holdOff`); POWER ON RESET leaves every link empty and every line released. -/

namespace Sys2Proof.Machine

/-- Every command is a power-on reset or ends its step in `finish`. -/
theorem exec_eq_powerOn_or_finish (c : Instr) (s : State) :
    (∃ addr ra rb rc, exec c s = .next { s with desc := {}, blk := powerOn addr ra rb rc }) ∨
      ∃ u, exec c s = .next (finish u) := by
  cases c
  case powerOnReset addr ra rb rc => exact .inl ⟨addr, ra, rb, rc, rfl⟩
  all_goals exact .inr ⟨_, rfl⟩

section
variable (addr : BitVec 7) (ra rb rc : BitVec 2) (l : LinkId)

@[simp] theorem powerOn_link_holdOff : ((powerOn addr ra rb rc).link l).holdOff = false := by
  cases l <;> rfl

@[simp] theorem powerOn_link_staged : ((powerOn addr ra rb rc).link l).staged = none := by
  cases l <;> rfl

@[simp] theorem powerOn_link_occupancy : ((powerOn addr ra rb rc).link l).occupancy = 0 := by
  cases l <;> rfl

end

/-- Settles O8: POWER ON RESET releases the lines of empty links (`powerOn_link_holdOff`), and every
other command judges them at its end (`exec_eq_powerOn_or_finish`, `settle_holdOff`). -/
theorem holdOffFollowsOccupancy : Obligations.HoldOffFollowsOccupancy := by
  intro c s
  obtain ⟨addr, ra, rb, rc, hreset⟩ | ⟨u, hfinish⟩ := exec_eq_powerOn_or_finish c s
  · exact ⟨_, hreset, fun l => by simp⟩
  · exact ⟨_, hfinish, fun l => by simp [settle_holdOff]⟩

end Sys2Proof.Machine
end
